-- ==== Sys2Proof/Word.lean ====
section
/-! DEFINITION. The bit-vector types the spec treats as bits: 3-bit codes, the 2-bit event code, the 8-bit selector. -/

namespace Sys2Proof

/-- A 3-bit value: a phase code (30_encoding R85), a phase index (10_state R24), a state code (30_encoding R82). -/
abbrev Code := BitVec 3

/-- The 2-bit event code `ev[1:0] = {rst, tick}` (30_encoding R81). -/
abbrev EventCode := BitVec 2

/-- The 8-bit selector word `{rst, tick, seq[2:0], phase[2:0]}` (30_encoding R83). -/
abbrev Selector := BitVec 8

end Sys2Proof
end

