-- ==== Sys2Proof/Syntax.lean ====
section
/-! DEFINITION. The names the spec gives things: the fifteen operations, the events, the values of `seq`. -/

namespace Sys2Proof

/-- The fifteen operations of the block (30_encoding R80, R87), one constructor per row of the opcode table.
No operation carries an operand in its selector (30_encoding R86), so no constructor has an argument: the `ppp` field
of HOLDEND and the `sss` field of TICK show registers that the operation reads (R84). -/
inductive Instr where
  /-- 70_reset_and_hazards R201. -/
  | reset
  /-- 40_rate_accumulator R110. -/
  | tick
  /-- 41_motor_sequencer R132. -/
  | bootnext
  /-- 41_motor_sequencer R134. -/
  | ph0
  /-- 41_motor_sequencer R135. -/
  | ph1
  /-- 41_motor_sequencer R136. -/
  | ph2
  /-- 41_motor_sequencer R137. -/
  | ph3
  /-- 41_motor_sequencer R138. -/
  | ph4
  /-- 41_motor_sequencer R139. -/
  | ph5
  /-- 41_motor_sequencer R140. -/
  | holdend
  /-- 41_motor_sequencer R141. -/
  | neutral
  /-- 41_motor_sequencer R144: the name of a selector, no event of the block. -/
  | wait
  /-- 41_motor_sequencer R142. -/
  | check
  /-- 41_motor_sequencer R143. -/
  | clear
  /-- 41_motor_sequencer R157. -/
  | sleep
deriving DecidableEq, Repr

/-- The events (30_encoding R80), by their codes (R81): RST has two spellings, `0b10` (the canonical one) and `0b11`,
an RST with a coincident tick that is discarded. -/
inductive Event where
  /-- STEP, code `0b00`: the sequencer's own progress. -/
  | step
  /-- TICK, code `0b01`: one timer overflow. -/
  | tick
  /-- RST, code `0b10`: power-on. -/
  | rst
  /-- RST, code `0b11`: reset dominates the coincident tick. -/
  | rstTick
deriving DecidableEq, Repr, Inhabited

/-- Whether an event is RST, in either spelling (30_encoding R81). -/
def Event.isRst : Event → Bool
  | .rst => true
  | .rstTick => true
  | .step => false
  | .tick => false

/-- The eight values of the sequencer's control register `seq` (10_state R23, 30_encoding R82). The spec lets a model
hold `seq` as an enumeration; the 3-bit codes are `Seq.code` of Decode.lean. -/
inductive Seq where
  /-- Between startup cycles. -/
  | S_BOOT
  /-- About to apply phase code `PT[phase]`. -/
  | S_APPLY
  /-- Holding a phase code on the pins. -/
  | S_HOLD
  /-- About to drive the neutral code. -/
  | S_NEUTRAL
  /-- In the low-power wait. -/
  | S_SLEEP
  /-- Awake, about to read the flag. -/
  | S_CHECK
  /-- Read the flag as set, about to clear it. -/
  | S_CLEAR
  /-- About to enter the low-power wait; not yet wakeable. -/
  | S_DOZE
deriving DecidableEq, Repr

end Sys2Proof
end

