-- ==== Sys2Proof/Decode.lean ====
section
/-! DEFINITION. Event codes, state codes, the selector word, the decoder and the encoder (30_encoding R81 to R92). -/

namespace Sys2Proof

/-- The event code `{rst, tick}` of an event (30_encoding R81). -/
def Event.code : Event → EventCode
  | .step => 0b00#2
  | .tick => 0b01#2
  | .rst => 0b10#2
  | .rstTick => 0b11#2

/-- The event an event code stands for (30_encoding R81). -/
def Event.ofCode (ev : EventCode) : Event :=
  match ev[1], ev[0] with
  | false, false => .step
  | false, true => .tick
  | true, false => .rst
  | true, true => .rstTick

/-- The 3-bit code of a value of `seq` (30_encoding R82). -/
def Seq.code : Seq → Code
  | .S_BOOT => 0b000#3
  | .S_APPLY => 0b001#3
  | .S_HOLD => 0b010#3
  | .S_NEUTRAL => 0b011#3
  | .S_SLEEP => 0b100#3
  | .S_CHECK => 0b101#3
  | .S_CLEAR => 0b110#3
  | .S_DOZE => 0b111#3

/-- The value of `seq` a 3-bit code stands for: every code is used (10_state R32, 30_encoding R82). -/
def Seq.ofCode (code : Code) : Seq :=
  match code[2], code[1], code[0] with
  | false, false, false => .S_BOOT
  | false, false, true => .S_APPLY
  | false, true, false => .S_HOLD
  | false, true, true => .S_NEUTRAL
  | true, false, false => .S_SLEEP
  | true, false, true => .S_CHECK
  | true, true, false => .S_CLEAR
  | true, true, true => .S_DOZE

/-- The selector word `{rst, tick, seq[2:0], phase[2:0]}` (30_encoding R83). -/
def selector (e : Event) (q : Seq) (phase : Code) : Selector :=
  e.code ++ q.code ++ phase

/-- The event field `sel[7:6]` (30_encoding R83). -/
def eventField (sel : Selector) : Event := Event.ofCode (sel.extractLsb' 6 2)

/-- The `seq` field `sel[5:3]` (30_encoding R83). -/
def seqField (sel : Selector) : Seq := Seq.ofCode (sel.extractLsb' 3 3)

/-- The `phase` field `sel[2:0]` (30_encoding R83). -/
def phaseField (sel : Selector) : Code := sel.extractLsb' 0 3

/-- Why a selector has no operation (30_encoding R88). -/
inductive Reserved where
  /-- S_APPLY or S_HOLD with `phase` 6 or 7: the selectors `0x0E`, `0x0F`, `0x16`, `0x17`. -/
  | phaseIndexOutOfRange
deriving DecidableEq, Repr

/-- Format P, the phase-indexed operations PH0 to PH5 (30_encoding R84, R87); indices 6 and 7 have no table entry
(20_memory R53). -/
def decodePhase (phase : Code) : Except Reserved Instr :=
  match phase[2], phase[1], phase[0] with
  | false, false, false => .ok .ph0
  | false, false, true => .ok .ph1
  | false, true, false => .ok .ph2
  | false, true, true => .ok .ph3
  | true, false, false => .ok .ph4
  | true, false, true => .ok .ph5
  | true, true, false => .error .phaseIndexOutOfRange
  | true, true, true => .error .phaseIndexOutOfRange

/-- The operation a STEP performs (30_encoding R84, R87; 41_motor_sequencer R131): chosen by `seq`, and in S_APPLY by
`phase`. HOLDEND's row takes `phase` 0 to 5 only. -/
def decodeStep (q : Seq) (phase : Code) : Except Reserved Instr :=
  match q with
  | .S_BOOT => .ok .bootnext
  | .S_APPLY => decodePhase phase
  | .S_HOLD => if phase ≤ 5#3 then .ok .holdend else .error .phaseIndexOutOfRange
  | .S_NEUTRAL => .ok .neutral
  | .S_SLEEP => .ok .wait
  | .S_CHECK => .ok .check
  | .S_CLEAR => .ok .clear
  | .S_DOZE => .ok .sleep

/-- The decoder, total on the 256 selectors (30_encoding R84, R87, R88). RST is tested first, so `0b11` is RESET. -/
def decode (sel : Selector) : Except Reserved Instr :=
  match eventField sel with
  | .rst => .ok .reset
  | .rstTick => .ok .reset
  | .tick => .ok .tick
  | .step => decodeStep (seqField sel) (phaseField sel)

/-- The `mask` column of the opcode map (30_encoding R87): the bits the decoder looks at. -/
def Instr.mask : Instr → Selector
  | .reset => 0x80#8
  | .tick => 0xC0#8
  | .bootnext => 0xF8#8
  | .ph0 => 0xFF#8
  | .ph1 => 0xFF#8
  | .ph2 => 0xFF#8
  | .ph3 => 0xFF#8
  | .ph4 => 0xFF#8
  | .ph5 => 0xFF#8
  | .holdend => 0xF8#8
  | .neutral => 0xF8#8
  | .wait => 0xF8#8
  | .check => 0xF8#8
  | .clear => 0xF8#8
  | .sleep => 0xF8#8

/-- The `match` column of the opcode map (30_encoding R87). -/
def Instr.pattern : Instr → Selector
  | .reset => 0x80#8
  | .tick => 0x40#8
  | .bootnext => 0x00#8
  | .ph0 => 0x08#8
  | .ph1 => 0x09#8
  | .ph2 => 0x0A#8
  | .ph3 => 0x0B#8
  | .ph4 => 0x0C#8
  | .ph5 => 0x0D#8
  | .holdend => 0x10#8
  | .neutral => 0x18#8
  | .wait => 0x20#8
  | .check => 0x28#8
  | .clear => 0x30#8
  | .sleep => 0x38#8

/-- A selector that shows the operation `i` with `rest` on the bits `i` does not decode (30_encoding R87's `x` and
`ppp` bits). -/
def encodeWith (i : Instr) (rest : Selector) : Selector := i.pattern ||| (rest &&& ~~~i.mask)

/-- The encoder: the canonical selector of an operation, its undecoded bits 0 (log entry 11). -/
def encode (i : Instr) : Selector := encodeWith i 0#8

/-- What the decoder reads from a word of the opcode table's numbering (30_encoding R92: one selector of 8 bits). -/
def decodeTableWord (nbits w : Nat) : Option Instr :=
  if nbits ≤ 8 ∧ w < 2 ^ 8 then
    match decode (BitVec.ofNat 8 w) with
    | .ok i => some i
    | .error _ => none
  else none

end Sys2Proof
end

