-- ==== Sys2Proof/Config.lean ====
section
/-! DEFINITION. What is fixed when the block is built: the configuration record of 00_scope R6, the constants of the
clocked realisation, and the free values of the parameters and of the schedule that the spec leaves open. -/

namespace Sys2Proof

/-- The configuration record `cfg` (00_scope R6), field by field under the spec's names. Every field is a constant of
the device: no operation writes one and reset leaves them (10_state R28). -/
structure Config where
  /-- Width of `acc` in bits. -/
  W : Nat
  /-- Tick period: microseconds one timer tick stands for. -/
  T : Nat
  /-- Target interval: microseconds between pulse requests. -/
  I : Nat
  /-- The phase table `PT[0..5]`. -/
  PT : Vector Code 6
  /-- The neutral, all-off output code. -/
  NEUTRAL : Code
  /-- Full motor cycles run once after reset. -/
  STARTUP_CYCLES : Nat
  /-- Width of `boot_left` in bits. -/
  BW : Nat
  /-- Least real time each phase code is held; timing only, read by no rule of the event model. -/
  HOLD_MIN : Nat
deriving DecidableEq, Repr

/-- The constants of the clocked realisation (70_reset_and_hazards R207): the hold counter's load value and the clock
period, the latter in the unit of `HOLD_MIN`. Both are OPEN. -/
structure HoldConfig where
  /-- What every PHk loads into `hold_cnt`. -/
  HOLD_CYCLES : Nat
  /-- The period of `clk`. -/
  t_clk : Nat
deriving DecidableEq, Repr

/-- The spec's default for `I`: 480 s in microseconds (00_scope R6, decision D3). -/
def Config.defaultInterval : Nat := 480000000

/-- FREE VALUE (log entry 3). The tick period of `State.reset`'s device, less one: `T` is OPEN (00_scope R6), so all
that is known of it is `1 <= T <= I` (R7). -/
opaque Config.freeTickPeriodLessOne : Fin 480000000

/-- FREE VALUE (log entry 3). The phase table of `State.reset`'s device: `PT` is OPEN (00_scope R6). -/
opaque Config.freePhaseTable : Vector Code 6

/-- FREE VALUE (log entry 4). The least hold of `State.reset`'s device: `HOLD_MIN` is OPEN (00_scope R6). -/
opaque Config.freeHoldMin : Nat

/-- FREE VALUE (log entry 5). The schedule: which event comes next is fixed by no rule (00_scope R10, 10_state R34).
The step applies it to a counter when no scripted event is left. -/
opaque Config.freeEvent : Nat → Event

/-- The device `State.reset` stands for: the spec's defaults where it gives one, free values where the field is OPEN
(00_scope R6; log entries 2 and 3). -/
def Config.device : Config where
  W := 32
  T := Config.freeTickPeriodLessOne.val + 1
  I := Config.defaultInterval
  PT := Config.freePhaseTable
  NEUTRAL := 0b000#3
  STARTUP_CYCLES := 180
  BW := 8
  HOLD_MIN := Config.freeHoldMin

end Sys2Proof
end

