-- ==== Sys2Proof/WellFormed.lean ====
section
/-! DEFINITION. Well-formedness. The spec gives one check, `WF(cfg)` of 00_scope R7, on the configuration. No operation
carries an operand (30_encoding R86), so every term of `Instr` is well-formed and there is nothing to check on one. -/

namespace Sys2Proof

/-- `WF(cfg)` (00_scope R7): the four conditions, in the spec's order. -/
abbrev Config.WF (c : Config) : Prop :=
  1 ≤ c.T ∧ c.T ≤ c.I ∧ c.I + c.T ≤ 2 ^ c.W ∧ c.STARTUP_CYCLES ≤ 2 ^ c.BW - 1

/-- A configuration together with the proof that it is well-formed: the model gives a meaning to no other (00_scope
R7), and `launch` refuses the others before the first event (log entry 10). -/
abbrev WfConfig := { c : Config // c.WF }

/-- `State.reset`'s device is well-formed whatever its open values are. -/
theorem Config.device_wf : Config.device.WF := by
  have h := Config.freeTickPeriodLessOne.isLt
  refine ⟨Nat.le_add_left 1 _, ?_, ?_, by decide⟩
  · exact h
  · simp only [Config.device, Config.defaultInterval]
    omega

/-- The device `State.reset` stands for. -/
def WfConfig.device : WfConfig := ⟨Config.device, Config.device_wf⟩

/-- The duty of the clocked realisation's builder (70_reset_and_hazards R207, R214): each phase code stays on the pins
for at least `HOLD_MIN`. -/
abbrev HoldConfig.meetsHoldMin (h : HoldConfig) (c : Config) : Prop :=
  c.HOLD_MIN ≤ (h.HOLD_CYCLES + 1) * h.t_clk

end Sys2Proof
end

