-- ==== Sys2Proof/Machine/State.lean ====
section
/-! DEFINITION. The machine's state as plain data, the reasons a run can stop, and the state after reset. -/

namespace Sys2Proof.Machine

/-- The observer's records (70_reset_and_hazards R224): history that no rule reads, emptied by RST (log entry 13). -/
structure Observer where
  /-- The values written to `pins` by STEPs, oldest first. -/
  pin_trace : List Code
  /-- The number of TICKs. -/
  ticks : Nat
  /-- The number of TICKs that took the fire arm. -/
  fires : Nat
  /-- The number of PHk operations. -/
  applies : Nat
  /-- The number of CLEARs. -/
  clears : Nat
deriving DecidableEq, Repr

/-- Empty records, as RST leaves them (70_reset_and_hazards R200, R224). -/
def Observer.empty : Observer where
  pin_trace := []
  ticks := 0
  fires := 0
  applies := 0
  clears := 0

/-- The block (10_state R20: seven registers and one read-only table, the table being a constant of `device`), the
observer's records, and the part of the schedule that is still to come. -/
structure State where
  /-- The constants of `cfg`, with their well-formedness; no operation writes them (10_state R28; log entries 1, 10). -/
  device : WfConfig
  /-- Unaccounted Time, `W` bits (10_state R21; log entry 7). -/
  acc : Nat
  /-- The Pulse Request flag (10_state R22). -/
  pulse_req : Bool
  /-- The sequencer's control register (10_state R23). -/
  seq : Seq
  /-- The phase index, 3 bits (10_state R24). -/
  phase : Code
  /-- Startup cycles still to start, `BW` bits (10_state R25; log entry 7). -/
  boot_left : Nat
  /-- Whether the startup cycles run (10_state R26). -/
  booting : Bool
  /-- The output port (10_state R27). -/
  pins : Code
  /-- The observer's records (70_reset_and_hazards R224). -/
  obs : Observer
  /-- The model's own: the scripted events still to come, next one first (log entry 5). -/
  events : List Event
  /-- The model's own: how many events were drawn from the free schedule (log entry 5). -/
  drawn : Nat
deriving DecidableEq, Repr

/-- The configuration record of a state's device. -/
abbrev State.cfg (s : State) : Config := s.device.val

/-- The model's fault (60_exceptions R171). -/
inductive Fault where
  /-- Raised when a STEP meets S_APPLY or S_HOLD with `phase > 5`. SAFE: no state reached from reset has such a `phase`
  (10_state R32). No later event clears it: the run ends. -/
  | phaseIndexOutOfRange
deriving DecidableEq, Repr

/-- The model's refusals. -/
inductive Refusal where
  /-- Raised by an arm of `exec` for an instruction without a meaning; no arm of this model raises it. SAFE. -/
  | notModelled (mnemonic : String)
  /-- Raised by `launch`, before the first event, when `WF(cfg)` is false (60_exceptions R171, 00_scope R7). SAFE: a
  circuit with such constants still runs, the model says nothing of it. -/
  | configNotWellFormed
deriving DecidableEq, Repr

/-- What one step of the machine answers. -/
abbrev Result := Host.Outcome State Fault Refusal

/-- The state RST leaves on a device (70_reset_and_hazards R200), before any event. -/
def State.initial (device : WfConfig) : State where
  device := device
  acc := 0
  pulse_req := false
  seq := .S_BOOT
  phase := 0#3
  boot_left := device.val.STARTUP_CYCLES
  booting := true
  pins := device.val.NEUTRAL
  obs := Observer.empty
  events := []
  drawn := 0

/-- The machine right after reset (70_reset_and_hazards R200), on the device of `WfConfig.device`. -/
def State.reset : State := State.initial WfConfig.device

end Sys2Proof.Machine
end

