-- ==== Sys2Proof/Machine/Ops.lean ====
section
/-! DEFINITION. The named operations every meaning is written with: one write per register, the port write, the ports
seen from outside, and sequencing of outcomes. The block has no memory to write (20_memory R50) and no exception to take
or return from (60_exceptions R170, R175, R176); the tick is the operation TICK. -/

namespace Sys2Proof.Machine

/-- Do `f` on the state an outcome gives; a fault or a refusal ends the run (60_exceptions R171). -/
def andThen {σ τ φ ρ : Type} (r : Host.Outcome σ φ ρ) (f : σ → Host.Outcome τ φ ρ) : Host.Outcome τ φ ρ :=
  match r with
  | .next s => f s
  | .fault x => .fault x
  | .refused x => .refused x

/-- `acc <- v`; only TICK and RESET write `acc` (10_state R21). -/
def State.setAcc (s : State) (v : Nat) : State := { s with acc := v }

/-- `seq <- q`: the block's only control transfer (41_motor_sequencer R152). -/
def State.goto (s : State) (q : Seq) : State := { s with seq := q }

/-- `phase <- p` (10_state R24). -/
def State.setPhase (s : State) (p : Code) : State := { s with phase := p }

/-- `boot_left <- n` (10_state R25). -/
def State.setBootLeft (s : State) (n : Nat) : State := { s with boot_left := n }

/-- `booting <- b` (10_state R26). -/
def State.setBooting (s : State) (b : Bool) : State := { s with booting := b }

/-- `pins <- v`, all three bits at once (20_memory R52, R54, R63). -/
def State.setPins (s : State) (v : Code) : State := { s with pins := v }

/-- A new value of the observer's records (70_reset_and_hazards R224). -/
def State.setObs (s : State) (o : Observer) : State := { s with obs := o }

/-- A write to `pins` made by a STEP: also recorded in the pin-write trace, even when no line moves (20_memory R55,
70_reset_and_hazards R224). -/
def State.drivePins (s : State) (v : Code) : State :=
  (s.setPins v).setObs { s.obs with pin_trace := s.obs.pin_trace ++ [v] }

/-- A full cycle is about to begin: the index at 0 and the next STEP a phase application. Shared by BOOTNEXT and CLEAR
(41_motor_sequencer R132, R143). -/
def State.startCycle (s : State) : State := (s.setPhase 0#3).goto .S_APPLY

/-- What an observer sees of the block between events (70_reset_and_hazards R205, the output ports). -/
structure Ports where
  /-- Line `i` is bit `i` (20_memory R52). -/
  pins : Code
  pulse_req : Bool
  /-- 1 exactly when `seq = S_SLEEP` (60_exceptions R182). -/
  sleep : Bool
  /-- `seq`, coded by 30_encoding R82. -/
  seq : Code
deriving DecidableEq, Repr

/-- The output ports of a state (70_reset_and_hazards R205). -/
def State.ports (s : State) : Ports where
  pins := s.pins
  pulse_req := s.pulse_req
  sleep := s.seq == .S_SLEEP
  seq := s.seq.code

end Sys2Proof.Machine
end

