-- ==== Sys2Proof/Machine/Operands.lean ====
section
/-! DEFINITION. The operand forms: the tick sum, the phase-table read, and the selector an event shows in a state. No
operation carries an operand in its selector (30_encoding R86). -/

namespace Sys2Proof.Machine

/-- `a1 = (acc + T) mod 2^W` (40_rate_accumulator R111). -/
def State.tickSum (s : State) : Nat := (s.acc + s.cfg.T) % 2 ^ s.cfg.W

/-- `MemRead(k, 1)`, one entry of the phase table (20_memory R51); the index type holds the six indices that have an
entry and no other (20_memory R53, R56). -/
def State.phaseCode (s : State) (k : Fin 6) : Code := s.cfg.PT[k]

/-- The selector an event shows in a state (30_encoding R83): no other state takes part in choosing the operation. -/
def State.selector (s : State) (e : Event) : Selector := Sys2Proof.selector e s.seq s.phase

end Sys2Proof.Machine
end

