-- ==== Sys2Proof/Machine/Flags.lean ====
section
/-! DEFINITION. The block's one flag, `pulse_req` (10_state R37): when it is set, and its two writes. -/

namespace Sys2Proof.Machine

/-- Whether a TICK in this state fires: `a1 >= I`, unsigned, equality included (40_rate_accumulator R112). -/
def State.fires (s : State) : Bool := decide (s.cfg.I ≤ s.tickSum)

/-- `pulse_req <- 1`, the producer's write (20_memory R62). -/
def State.setRequest (s : State) : State := { s with pulse_req := true }

/-- `pulse_req <- 0`, the consumer's write, made without a read (41_motor_sequencer R143). -/
def State.clearRequest (s : State) : State := { s with pulse_req := false }

end Sys2Proof.Machine
end

