-- ==== Sys2Proof/Machine/Accumulator.lean ====
section
/-! DEFINITION. The Rate Accumulator: the operation TICK (40_rate_accumulator R110 to R122). -/

namespace Sys2Proof.Machine

/-- Accumulate, compare and carry (40_rate_accumulator R111, R112), with the tick recorded (70_reset_and_hazards
R224). The subtraction is made once and only when `a1 >= I`. -/
def State.accumulate (s : State) : State :=
  if s.fires then
    ((s.setAcc ((s.tickSum - s.cfg.I) % 2 ^ s.cfg.W)).setRequest).setObs
      { s.obs with ticks := s.obs.ticks + 1, fires := s.obs.fires + 1 }
  else (s.setAcc s.tickSum).setObs { s.obs with ticks := s.obs.ticks + 1 }

/-- The wake (40_rate_accumulator R113): only a sleeping sequencer is woken, and a tick that finds it awake is not
remembered (10_state R29). -/
def State.wake (s : State) : State := if s.seq = .S_SLEEP then s.goto .S_CHECK else s

/-- TICK (40_rate_accumulator R110): enabled in every state, never fails (R114). The accumulator part does not write
`seq`, so the wake reads it as it was before the event. -/
def execTick (s : State) : Result := .next s.accumulate.wake

end Sys2Proof.Machine
end

