-- ==== Sys2Proof/Machine/Reset.lean ====
section
/-! DEFINITION. RESET (70_reset_and_hazards R201) and the launch of a machine on a configuration (00_scope R7). -/

namespace Sys2Proof.Machine

/-- Every register at its reset value and the records emptied (70_reset_and_hazards R200, R224). The constants of
`cfg` are not registers, and the schedule still to come is the environment's: both stay. -/
def State.resetRegisters (s : State) : State :=
  ((((((((s.setAcc 0).clearRequest).goto .S_BOOT).setPhase 0#3).setBootLeft s.cfg.STARTUP_CYCLES).setBooting
    true).setPins s.cfg.NEUTRAL).setObs Observer.empty)

/-- RESET (70_reset_and_hazards R201): enabled in every state. -/
def execReset (s : State) : Result := .next s.resetRegisters

/-- A machine built with a configuration and given its first RST (70_reset_and_hazards R204). A configuration that is
not well-formed is refused here, before the first event (00_scope R7, 60_exceptions R171; log entry 10). -/
def launch (c : Config) : Result :=
  if h : c.WF then .next (State.initial ⟨c, h⟩) else .refused .configNotWellFormed

end Sys2Proof.Machine
end

