-- ==== Sys2Proof/Machine/Sequencer.lean ====
section
/-! DEFINITION. The Motor Driver: BOOTNEXT, PH0 to PH5, HOLDEND, NEUTRAL, WAIT, CHECK, CLEAR, SLEEP (41_motor_sequencer
R130 to R157). A meaning is the effect of its rule's pseudocode; that the operation is the one `seq` and `phase` select
is the decoder's doing (R131; log entry 12). -/

namespace Sys2Proof.Machine

/-- BOOTNEXT (41_motor_sequencer R132). -/
def execBootnext (s : State) : Result :=
  .next (if s.boot_left = 0 then (s.setBooting false).goto .S_DOZE
    else (s.setBootLeft (s.boot_left - 1)).startCycle)

/-- One phase application, PHk (41_motor_sequencer R133): `pins <- PT[k]`, then hold. -/
def State.applyPhase (s : State) (k : Fin 6) : State :=
  let t := (s.drivePins (s.phaseCode k)).goto .S_HOLD
  t.setObs { t.obs with applies := t.obs.applies + 1 }

/-- PH0 (41_motor_sequencer R134). -/
def execPh0 (s : State) : Result := .next (s.applyPhase 0)

/-- PH1 (41_motor_sequencer R135). -/
def execPh1 (s : State) : Result := .next (s.applyPhase 1)

/-- PH2 (41_motor_sequencer R136). -/
def execPh2 (s : State) : Result := .next (s.applyPhase 2)

/-- PH3 (41_motor_sequencer R137). -/
def execPh3 (s : State) : Result := .next (s.applyPhase 3)

/-- PH4 (41_motor_sequencer R138). -/
def execPh4 (s : State) : Result := .next (s.applyPhase 4)

/-- PH5 (41_motor_sequencer R139). -/
def execPh5 (s : State) : Result := .next (s.applyPhase 5)

/-- HOLDEND (41_motor_sequencer R140). `phase > 5` faults (30_encoding R88, 60_exceptions R171). -/
def execHoldend (s : State) : Result :=
  if s.phase = 5#3 then .next (s.goto .S_NEUTRAL)
  else if s.phase < 5#3 then .next ((s.setPhase (s.phase + 1#3)).goto .S_APPLY)
  else .fault .phaseIndexOutOfRange

/-- NEUTRAL (41_motor_sequencer R141). -/
def execNeutral (s : State) : Result :=
  .next (((s.drivePins s.cfg.NEUTRAL).setPhase 0#3).goto (if s.booting then .S_BOOT else .S_DOZE))

/-- WAIT (41_motor_sequencer R144): a deterministic runner asked for a STEP of a sleeping sequencer returns the state
unchanged. -/
def execWait (s : State) : Result := .next s

/-- CHECK (41_motor_sequencer R142): reads the flag, does not clear it. -/
def execCheck (s : State) : Result := .next (s.goto (if s.pulse_req then .S_CLEAR else .S_DOZE))

/-- CLEAR (41_motor_sequencer R143), counted by the observer (70_reset_and_hazards R224). -/
def execClear (s : State) : Result :=
  .next ((s.clearRequest.startCycle).setObs { s.obs with clears := s.obs.clears + 1 })

/-- SLEEP (41_motor_sequencer R157). -/
def execSleep (s : State) : Result := .next (s.goto .S_SLEEP)

end Sys2Proof.Machine
end

