-- ==== Sys2Proof/Machine/Dispatch.lean ====
section
/-! DEFINITION. Which meaning each operation has: one arm per constructor of Instr (30_encoding R87). -/

namespace Sys2Proof.Machine

def exec (i : Instr) (s : State) : Host.Outcome State Fault Refusal :=
  match i with
  | .reset => Sys2Proof.Machine.execReset s
  | .tick => Sys2Proof.Machine.execTick s
  | .bootnext => Sys2Proof.Machine.execBootnext s
  | .ph0 => Sys2Proof.Machine.execPh0 s
  | .ph1 => Sys2Proof.Machine.execPh1 s
  | .ph2 => Sys2Proof.Machine.execPh2 s
  | .ph3 => Sys2Proof.Machine.execPh3 s
  | .ph4 => Sys2Proof.Machine.execPh4 s
  | .ph5 => Sys2Proof.Machine.execPh5 s
  | .holdend => Sys2Proof.Machine.execHoldend s
  | .neutral => Sys2Proof.Machine.execNeutral s
  | .wait => Sys2Proof.Machine.execWait s
  | .check => Sys2Proof.Machine.execCheck s
  | .clear => Sys2Proof.Machine.execClear s
  | .sleep => Sys2Proof.Machine.execSleep s

end Sys2Proof.Machine
end

