-- ==== Sys2Proof/Machine/Event.lean ====
section
/-! DEFINITION. One event: the selector it shows is decoded and the operation performed; and which event comes next. -/

namespace Sys2Proof.Machine

/-- The model's answer to a selector that has no operation (30_encoding R88, 60_exceptions R171). -/
def reservedFault : Reserved → Fault
  | .phaseIndexOutOfRange => .phaseIndexOutOfRange

/-- One atomic event of the block (20_memory R57): the operation is chosen by the event, `seq` and `phase` (30_encoding
R83) and performed. -/
def runEvent (e : Event) (s : State) : Result :=
  match decode (s.selector e) with
  | .ok i => exec i s
  | .error r => .fault (reservedFault r)

/-- The event that comes next: the first scripted one, or, when none is left, the free schedule's (log entry 5). -/
def State.nextEvent (s : State) : Event :=
  match s.events with
  | e :: _ => e
  | [] => Config.freeEvent s.drawn

/-- The schedule once its next event is taken (log entry 5). -/
def State.takeEvent (s : State) : State :=
  match s.events with
  | _ :: es => { s with events := es }
  | [] => { s with drawn := s.drawn + 1 }

/-- `s` with the selector `sel` about to be shown: its event next in the script, its `seq` and `phase` in the registers
(30_encoding R83; log entry 6). -/
def State.withSelector (s : State) (sel : Selector) : State :=
  { s with events := eventField sel :: s.events, seq := seqField sel, phase := phaseField sel }

end Sys2Proof.Machine
end

