-- ==== Sys2Proof/Machine/Step.lean ====
section
/-! DEFINITION. One step of the machine: the next event of the schedule. -/

namespace Sys2Proof.Machine

/-- One step: the next event is taken from the schedule and performed (00_scope R10). -/
def step (s : State) : Host.Outcome State Fault Refusal := runEvent s.nextEvent s.takeEvent

/-- `s` with the operation of the opcode-table word `w` as the very next step (30_encoding R92: one 8-bit selector). -/
def State.withFetchWord (s : State) (_nbits w : Nat) : State := s.withSelector (BitVec.ofNat 8 w)

end Sys2Proof.Machine
end

