-- ==== Sys2Proof/Machine/Clocked.lean ====
section
/-! DEFINITION. The clocked realisation (70_reset_and_hazards R205 to R208): the block with a hold counter, driven by
rising clock edges. It is not the normative model (00_scope R10); it runs the block by `runEvent` only, and leaves the
block's own schedule alone (log entry 16). -/

namespace Sys2Proof.Machine

/-- The state of the clocked realisation (70_reset_and_hazards R207). -/
structure ClockedState where
  /-- The block of the event model. -/
  block : State
  /-- The hold counter. -/
  hold_cnt : Nat
  /-- The constants `HOLD_CYCLES` and `t_clk`. -/
  hold : HoldConfig
deriving DecidableEq, Repr

/-- The realisation after RESET (70_reset_and_hazards R207). -/
def ClockedState.initial (device : WfConfig) (hold : HoldConfig) : ClockedState where
  block := State.initial device
  hold_cnt := 0
  hold := hold

/-- The input ports at one rising edge of `clk` (70_reset_and_hazards R205). -/
structure EdgeInput where
  rst : Bool
  tick : Bool
deriving DecidableEq, Repr

/-- The result of one clock edge. -/
abbrev ClockedResult := Host.Outcome ClockedState Fault Refusal

/-- An event of the block inside an edge, `hold_cnt` becoming `n`. -/
def ClockedState.perform (c : ClockedState) (e : Event) (n : Nat) : ClockedResult :=
  andThen (runEvent e c.block) fun b => .next { c with block := b, hold_cnt := n }

/-- The sequencer's part of an edge (70_reset_and_hazards R206): a hold counts down, a sleeping sequencer does nothing,
any other performs one STEP; a PHk, the STEP of S_APPLY, loads the counter (R207). -/
def ClockedState.sequencerPart (c : ClockedState) : ClockedResult :=
  if c.block.seq = .S_HOLD ∧ c.hold_cnt ≠ 0 then .next { c with hold_cnt := c.hold_cnt - 1 }
  else if c.block.seq = .S_SLEEP then .next c
  else c.perform .step (if c.block.seq = .S_APPLY then c.hold.HOLD_CYCLES else c.hold_cnt)

/-- The accumulator's part of an edge (70_reset_and_hazards R206): on the state the sequencer's part left. -/
def ClockedState.tickPart (c : ClockedState) (tick : Bool) : ClockedResult :=
  if tick then c.perform .tick c.hold_cnt else .next c

/-- One rising edge of `clk` (70_reset_and_hazards R206, R174): RST before everything, its coincident tick discarded;
otherwise the STEP, then the TICK. -/
def edge (inp : EdgeInput) (c : ClockedState) : ClockedResult :=
  if inp.rst then c.perform (if inp.tick then .rstTick else .rst) 0
  else andThen c.sequencerPart fun d => d.tickPart inp.tick

/-- Several edges, in order. -/
def runEdges : List EdgeInput → ClockedState → ClockedResult
  | [], c => .next c
  | i :: is, c => andThen (edge i c) (runEdges is)

end Sys2Proof.Machine
end

