-- ==== Sys2Proof/Safety.lean ====
section
/-! DEFINITION. The terms the claims are stated in: runs of event traces and of infinite schedules, the launch premises
of 70_reset_and_hazards R223, the invariants of 10_state R31 and R32, and the counts of 41_motor_sequencer R151. -/

namespace Sys2Proof.Machine

/-! ### Runs -/

/-- A finite run: the events of a trace, in order (30_encoding R89, 20_memory R57). -/
def runTrace : List Event → State → Result
  | [], s => .next s
  | e :: es, s => andThen (runEvent e s) (runTrace es)

/-- The state after `n` events of an infinite schedule. -/
def runSchedule (sched : Nat → Event) (s : State) : Nat → Result
  | 0 => .next s
  | n + 1 => andThen (runSchedule sched s n) (runEvent (sched n))

/-- The operations the STEPs of a trace perform, in order (30_encoding R89's `STEP[op]`). -/
def stepOps : List Event → State → List Instr
  | [], _ => []
  | e :: es, s =>
    (if e = .step then (decode (s.selector e)).toOption.toList else []) ++
      match runEvent e s with
      | .next t => stepOps es t
      | .fault _ => []
      | .refused _ => []

/-- How many events of a run satisfy `p` in the state they meet. -/
def countAlong (p : Event → State → Bool) : List Event → State → Nat
  | [], _ => 0
  | e :: es, s =>
    (if p e s then 1 else 0) +
      match runEvent e s with
      | .next t => countAlong p es t
      | .fault _ => 0
      | .refused _ => 0

/-! ### Launch premises (70_reset_and_hazards R223) -/

/-- `AtReset(s)`: every register as 70_reset_and_hazards R200 has it, and the records empty; the schedule is free. -/
def State.AtReset (s : State) : Prop :=
  s = { State.initial s.device with events := s.events, drawn := s.drawn }

/-- A trace without any RST. -/
abbrev RstFree (tr : List Event) : Prop := ∀ e ∈ tr, e.isRst = false

/-- `NoRst(tr)`: no RST after the trace's first event, which may be the RST that opens a run (30_encoding R89). -/
abbrev NoRst (tr : List Event) : Prop := RstFree tr.tail

/-- `NoFault`: no fault of 60_exceptions R171 is recorded. A fault is recorded as the outcome of an event or of a run, and
a state holds none, so the premise is on the outcome (log entry 21). -/
def NoFault (r : Result) : Prop := ∀ f : Fault, r ≠ .fault f

/-- `Reachable(s)`: reached from the reset state of a device by some trace with `NoRst`. -/
def State.Reachable (s : State) : Prop :=
  ∃ s₀ tr, s₀.AtReset ∧ NoRst tr ∧ runTrace tr s₀ = .next s

/-- The fairness of 70_reset_and_hazards R221 on a schedule without RST: (a) a STEP that stays enabled is taken, where a
STEP is enabled unless `seq = S_SLEEP` (41_motor_sequencer R131); (b) ticks keep coming. -/
structure Fair (sched : Nat → Event) (s : State) : Prop where
  noRst : ∀ n, (sched n).isRst = false
  steps : ∀ n, ∃ m, n ≤ m ∧ (sched m = .step ∨ ∃ t, runSchedule sched s m = .next t ∧ t.seq = .S_SLEEP)
  ticks : ∀ n, ∃ m, n ≤ m ∧ sched m = .tick

/-! ### Invariants -/

/-- The invariants of 10_state R31 (`acc < I`) and R32, in the spec's order. -/
abbrev State.Inv (s : State) : Prop :=
  s.acc < s.cfg.I ∧
  s.phase ≤ 5#3 ∧
  s.boot_left ≤ s.cfg.STARTUP_CYCLES ∧
  (s.booting = false → s.boot_left = 0) ∧
  (s.seq = .S_SLEEP ∨ s.seq = .S_CHECK ∨ s.seq = .S_CLEAR ∨ s.seq = .S_DOZE → s.booting = false ∧ s.phase = 0#3) ∧
  (s.seq = .S_BOOT → s.booting = true ∧ s.phase = 0#3) ∧
  (s.pins = s.cfg.NEUTRAL ∨ ∃ k : Fin 6, s.pins = s.cfg.PT[k])

/-- What decides which STEP selectors can be shown (95_test_vectors V64): `Inv`, and the index at 5 before NEUTRAL; and
a CLEAR finds the flag set (93_implementation_defined X5). -/
abbrev State.SelectorInv (s : State) : Prop :=
  s.Inv ∧ (s.seq = .S_NEUTRAL → s.phase = 5#3) ∧ (s.seq = .S_CLEAR → s.pulse_req = true)

/-- What the output lines show at each point of the sequence (41_motor_sequencer R134 to R141): the code last applied
during a cycle, the neutral code outside one. -/
abbrev State.PinsInv (s : State) : Prop :=
  (s.seq = .S_APPLY → s.phase = 0#3 → s.pins = s.cfg.NEUTRAL) ∧
  (s.seq = .S_APPLY → s.phase ≠ 0#3 → s.cfg.PT[s.phase.toNat - 1]? = some s.pins) ∧
  (s.seq = .S_HOLD → s.cfg.PT[s.phase.toNat]? = some s.pins) ∧
  (s.seq = .S_NEUTRAL → s.pins = s.cfg.PT[5]) ∧
  (s.seq ≠ .S_APPLY → s.seq ≠ .S_HOLD → s.seq ≠ .S_NEUTRAL → s.pins = s.cfg.NEUTRAL)

/-- `acc` and `boot_left` fit their registers (10_state R21, R25; log entry 7). -/
abbrev State.FitsWidths (s : State) : Prop := s.acc < 2 ^ s.cfg.W ∧ s.boot_left < 2 ^ s.cfg.BW

/-! ### What is counted (41_motor_sequencer R151) -/

/-- A TICK that fires and finds `pulse_req = flag`. -/
def firesOnFlag (flag : Bool) (e : Event) (s : State) : Bool := e == .tick && s.fires && s.pulse_req == flag

/-- A STEP that performs CLEAR and finds `pulse_req = flag`. -/
def clearsOnFlag (flag : Bool) (e : Event) (s : State) : Bool := e == .step && s.seq == .S_CLEAR && s.pulse_req == flag

/-- A STEP that begins a startup cycle. -/
def beginsStartupCycle (e : Event) (s : State) : Bool := e == .step && s.seq == .S_BOOT && s.boot_left != 0

/-- A STEP that begins a requested cycle. -/
def beginsRequestedCycle (e : Event) (s : State) : Bool := e == .step && s.seq == .S_CLEAR

/-! ### The clocked realisation (70_reset_and_hazards R208) -/

/-- The TICK of an edge, if it has one. -/
def tickOf (tick : Bool) : List Event := if tick then [.tick] else []

/-- The events an edge may be, seen from the block: one RST, or at most one STEP followed by the edge's TICK. -/
def EdgeEvents (inp : EdgeInput) (tr : List Event) : Prop :=
  if inp.rst then tr = [if inp.tick then .rstTick else .rst]
  else tr = tickOf inp.tick ∨ tr = .step :: tickOf inp.tick

end Sys2Proof.Machine
end

