-- ==== Sys2Proof/Certificates/Slice0/Obligations.lean ====
section
/-! DEFINITION. The statements for the provers. Each says which rule of `spec/` it formalises; the records are
written out, so that a statement says what the rule says and not what a helper of the model does. -/

open Sys2Proof Sys2Proof.Machine

/-! ### Selectors, decoding, dispatch -/

/-- 30_encoding R81, R82, R83: the selector is `{rst, tick, seq, phase}`, each field coded as its table says, and every
event code and every state code stands for one event and one state; and nothing else takes part in choosing the
operation an event performs. -/
def Obligations.SelectorFields : Prop :=
  (∀ (e : Event) (q : Seq) (p : Code),
    (selector e q p).extractLsb' 6 2 = e.code ∧
    (selector e q p).extractLsb' 3 3 = q.code ∧
    (selector e q p).extractLsb' 0 3 = p) ∧
  Event.step.code = 0b00#2 ∧ Event.tick.code = 0b01#2 ∧ Event.rst.code = 0b10#2 ∧ Event.rstTick.code = 0b11#2 ∧
  Seq.S_BOOT.code = 0b000#3 ∧ Seq.S_APPLY.code = 0b001#3 ∧ Seq.S_HOLD.code = 0b010#3 ∧
  Seq.S_NEUTRAL.code = 0b011#3 ∧ Seq.S_SLEEP.code = 0b100#3 ∧ Seq.S_CHECK.code = 0b101#3 ∧
  Seq.S_CLEAR.code = 0b110#3 ∧ Seq.S_DOZE.code = 0b111#3 ∧
  (∀ ev : EventCode, (Event.ofCode ev).code = ev) ∧ (∀ c : Code, (Seq.ofCode c).code = c) ∧
  (∀ (e : Event) (s : State) (i : Instr), decode (selector e s.seq s.phase) = .ok i → runEvent e s = exec i s)

/-- 30_encoding R87, R88: the opcode map's mask and match columns; a selector is an operation's exactly when it matches
the operation's row and is none of the four reserved ones (so at most one row takes it, and HOLDEND's takes `ppp <= 5`
only); the four reserved selectors, and no others, are rejected by name. -/
def Obligations.DecodeIsTheOpcodeMap : Prop :=
  (∀ row ∈ [(Instr.reset, 0x80#8, 0x80#8), (.tick, 0xC0#8, 0x40#8), (.bootnext, 0xF8#8, 0x00#8),
      (.ph0, 0xFF#8, 0x08#8), (.ph1, 0xFF#8, 0x09#8), (.ph2, 0xFF#8, 0x0A#8), (.ph3, 0xFF#8, 0x0B#8),
      (.ph4, 0xFF#8, 0x0C#8), (.ph5, 0xFF#8, 0x0D#8), (.holdend, 0xF8#8, 0x10#8), (.neutral, 0xF8#8, 0x18#8),
      (.wait, 0xF8#8, 0x20#8), (.check, 0xF8#8, 0x28#8), (.clear, 0xF8#8, 0x30#8), (.sleep, 0xF8#8, 0x38#8)],
    row.1.mask = row.2.1 ∧ row.1.pattern = row.2.2) ∧
  (∀ (sel : Selector) (i : Instr),
    decode sel = .ok i ↔
      sel &&& i.mask = i.pattern ∧ sel ≠ 0x0E#8 ∧ sel ≠ 0x0F#8 ∧ sel ≠ 0x16#8 ∧ sel ≠ 0x17#8) ∧
  (∀ sel : Selector,
    decode sel = .error .phaseIndexOutOfRange ↔ sel = 0x0E#8 ∨ sel = 0x0F#8 ∨ sel = 0x16#8 ∨ sel = 0x17#8)

/-- 95_test_vectors V64: selectors written out bit by bit from the opcode map, and what they decode to. -/
def Obligations.DecodedWords : Prop :=
  decode 0b00000000#8 = .ok .bootnext ∧ decode 0b00001000#8 = .ok .ph0 ∧ decode 0b00001101#8 = .ok .ph5 ∧
  decode 0b00010010#8 = .ok .holdend ∧ decode 0b00011101#8 = .ok .neutral ∧ decode 0b00100000#8 = .ok .wait ∧
  decode 0b00101000#8 = .ok .check ∧ decode 0b00110000#8 = .ok .clear ∧ decode 0b00111000#8 = .ok .sleep ∧
  decode 0b01010010#8 = .ok .tick ∧ decode 0b11100000#8 = .ok .reset ∧
  decode 0b00001110#8 = .error .phaseIndexOutOfRange ∧ decode 0b00010111#8 = .error .phaseIndexOutOfRange

/-- 30_encoding R87: decoding an operation's selector gives the operation back, whatever stands on the bits it does
not decode (for HOLDEND: whatever index up to 5), and a selector is rebuilt from its operation and those bits. -/
def Obligations.DecodeEncodeAgree : Prop :=
  (∀ i : Instr, decode (encode i) = .ok i) ∧
  (∀ (i : Instr) (rest : Selector), (i = .holdend → phaseField rest ≤ 5#3) → decode (encodeWith i rest) = .ok i) ∧
  (∀ (sel : Selector) (i : Instr), decode sel = .ok i → encodeWith i sel = sel)

/-- 41_motor_sequencer R131, 30_encoding R80: the operation an event performs, by the event, `seq` and `phase`. -/
def Obligations.DispatchByState : Prop :=
  ∀ p : Code,
    (∀ q, decode (selector .rst q p) = .ok .reset ∧ decode (selector .rstTick q p) = .ok .reset ∧
      decode (selector .tick q p) = .ok .tick) ∧
    decode (selector .step .S_BOOT p) = .ok .bootnext ∧
    (p = 0#3 → decode (selector .step .S_APPLY p) = .ok .ph0) ∧
    (p = 1#3 → decode (selector .step .S_APPLY p) = .ok .ph1) ∧
    (p = 2#3 → decode (selector .step .S_APPLY p) = .ok .ph2) ∧
    (p = 3#3 → decode (selector .step .S_APPLY p) = .ok .ph3) ∧
    (p = 4#3 → decode (selector .step .S_APPLY p) = .ok .ph4) ∧
    (p = 5#3 → decode (selector .step .S_APPLY p) = .ok .ph5) ∧
    (p ≤ 5#3 → decode (selector .step .S_HOLD p) = .ok .holdend) ∧
    (¬ p ≤ 5#3 → decode (selector .step .S_APPLY p) = .error .phaseIndexOutOfRange ∧
      decode (selector .step .S_HOLD p) = .error .phaseIndexOutOfRange) ∧
    decode (selector .step .S_NEUTRAL p) = .ok .neutral ∧
    decode (selector .step .S_SLEEP p) = .ok .wait ∧
    decode (selector .step .S_CHECK p) = .ok .check ∧
    decode (selector .step .S_CLEAR p) = .ok .clear ∧
    decode (selector .step .S_DOZE p) = .ok .sleep

/-- A step runs the decoded operation: where the selector of the next event decodes to `i`, the step is `exec i` on the
same registers, the event taken from the schedule (scripted, or drawn from the free schedule; log entry 5). -/
def Obligations.StepRunsDecodedOperation : Prop :=
  (∀ (s : State) (e : Event) (es : List Event) (i : Instr), s.events = e :: es →
    decode (selector e s.seq s.phase) = .ok i → step s = exec i { s with events := es }) ∧
  (∀ (s : State) (i : Instr), s.events = [] →
    decode (selector (Config.freeEvent s.drawn) s.seq s.phase) = .ok i →
    step s = exec i { s with drawn := s.drawn + 1 })

/-! ### The operations, one by one -/

/-- 70_reset_and_hazards R201. -/
def Obligations.ResetOperation : Prop :=
  (∀ sel : Selector, sel.extractLsb' 7 1 = 1#1 → decode sel = .ok .reset) ∧
  (∀ s : State, exec .reset s = .next { s with
    acc := 0, pulse_req := false, seq := .S_BOOT, phase := 0#3, boot_left := s.cfg.STARTUP_CYCLES, booting := true,
    pins := s.cfg.NEUTRAL, obs := { pin_trace := [], ticks := 0, fires := 0, applies := 0, clears := 0 } }) ∧
  (∀ d : WfConfig, exec .reset (State.initial d) = .next (State.initial d))

/-- 40_rate_accumulator R110, R111, R112, R113. -/
def Obligations.TickOperation : Prop :=
  (∀ sel : Selector, sel.extractLsb' 6 2 = 0b01#2 → decode sel = .ok .tick) ∧
  (∀ s : State, exec .tick s = .next (
    let a1 := (s.acc + s.cfg.T) % 2 ^ s.cfg.W
    let woken := if s.seq = .S_SLEEP then Seq.S_CHECK else s.seq
    if s.cfg.I ≤ a1 then { s with
      acc := (a1 - s.cfg.I) % 2 ^ s.cfg.W, pulse_req := true, seq := woken,
      obs := { s.obs with ticks := s.obs.ticks + 1, fires := s.obs.fires + 1 } }
    else { s with acc := a1, seq := woken, obs := { s.obs with ticks := s.obs.ticks + 1 } }))

/-- 41_motor_sequencer R132. -/
def Obligations.BootnextOperation : Prop :=
  (∀ sel : Selector, sel.extractLsb' 3 5 = 0b00000#5 → decode sel = .ok .bootnext) ∧
  (∀ s : State, s.boot_left = 0 → exec .bootnext s = .next { s with booting := false, seq := .S_DOZE }) ∧
  (∀ s : State, s.boot_left ≠ 0 →
    exec .bootnext s = .next { s with boot_left := s.boot_left - 1, phase := 0#3, seq := .S_APPLY })

/-- 41_motor_sequencer R133, for each of the six indices. -/
def Obligations.PhaseApplicationOperations : Prop :=
  (∀ (k : Fin 6) (i : Instr), [Instr.ph0, .ph1, .ph2, .ph3, .ph4, .ph5][k.val]? = some i →
    decode (0b00001#5 ++ BitVec.ofNat 3 k) = .ok i ∧
    ∀ s : State, exec i s = .next { s with
      pins := s.cfg.PT[k], seq := .S_HOLD,
      obs := { s.obs with pin_trace := s.obs.pin_trace ++ [s.cfg.PT[k]], applies := s.obs.applies + 1 } })

/-- 41_motor_sequencer R140; the fault on `phase > 5` is 30_encoding R88's. -/
def Obligations.HoldendOperation : Prop :=
  (∀ p : Code, p ≤ 5#3 → decode (0b00010#5 ++ p) = .ok .holdend) ∧
  (∀ s : State, s.phase = 5#3 → exec .holdend s = .next { s with seq := .S_NEUTRAL }) ∧
  (∀ s : State, s.phase < 5#3 →
    exec .holdend s = .next { s with phase := s.phase + 1#3, seq := .S_APPLY }) ∧
  (∀ s : State, 5#3 < s.phase → exec .holdend s = .fault .phaseIndexOutOfRange)

/-- 41_motor_sequencer R141; and S_NEUTRAL is entered from the last HOLDEND of a cycle and from nowhere else, so the
neutral write is made after every full cycle and only there. -/
def Obligations.NeutralOperation : Prop :=
  (∀ sel : Selector, sel.extractLsb' 3 5 = 0b00011#5 → decode sel = .ok .neutral) ∧
  (∀ s : State, exec .neutral s = .next { s with
    pins := s.cfg.NEUTRAL, phase := 0#3, seq := if s.booting = true then .S_BOOT else .S_DOZE,
    obs := { s.obs with pin_trace := s.obs.pin_trace ++ [s.cfg.NEUTRAL] } }) ∧
  (∀ (e : Event) (s t : State), runEvent e s = .next t → t.seq = .S_NEUTRAL → s.seq ≠ .S_NEUTRAL →
    e = .step ∧ s.seq = .S_HOLD ∧ s.phase = 5#3)

/-- 41_motor_sequencer R144: WAIT changes nothing, a sleeping sequencer has no other STEP, and a TICK lifts the wait. -/
def Obligations.WaitOperation : Prop :=
  (∀ sel : Selector, sel.extractLsb' 3 5 = 0b00100#5 → decode sel = .ok .wait) ∧
  (∀ s : State, exec .wait s = .next s) ∧
  (∀ s : State, s.seq = .S_SLEEP →
    runEvent .step s = .next s ∧ ∃ t, runEvent .tick s = .next t ∧ t.seq = .S_CHECK)

/-- 41_motor_sequencer R142, with its "exactly once per wake": only the wake enters S_CHECK, and a STEP leaves it. -/
def Obligations.CheckOperation : Prop :=
  (∀ sel : Selector, sel.extractLsb' 3 5 = 0b00101#5 → decode sel = .ok .check) ∧
  (∀ s : State, exec .check s =
    .next { s with seq := if s.pulse_req = true then .S_CLEAR else .S_DOZE }) ∧
  (∀ (e : Event) (s t : State), runEvent e s = .next t → t.seq = .S_CHECK →
    e = .tick ∧ (s.seq = .S_SLEEP ∨ s.seq = .S_CHECK))

/-- 41_motor_sequencer R143. -/
def Obligations.ClearOperation : Prop :=
  (∀ sel : Selector, sel.extractLsb' 3 5 = 0b00110#5 → decode sel = .ok .clear) ∧
  (∀ s : State, exec .clear s = .next { s with
    pulse_req := false, phase := 0#3, seq := .S_APPLY, obs := { s.obs with clears := s.obs.clears + 1 } })

/-- 41_motor_sequencer R157: SLEEP; a TICK that falls in S_DOZE wakes nothing; and where S_DOZE is entered from. -/
def Obligations.SleepOperation : Prop :=
  (∀ sel : Selector, sel.extractLsb' 3 5 = 0b00111#5 → decode sel = .ok .sleep) ∧
  (∀ s : State, exec .sleep s = .next { s with seq := .S_SLEEP }) ∧
  (∀ s : State, s.seq = .S_DOZE → ∃ t, runEvent .tick s = .next t ∧ t.seq = .S_DOZE) ∧
  (∀ (e : Event) (s t : State), s.Inv → runEvent e s = .next t → s.seq ≠ .S_DOZE → t.seq = .S_DOZE →
    e = .step ∧ (s.seq = .S_BOOT ∨ s.seq = .S_NEUTRAL ∨ s.seq = .S_CHECK) ∧ t.phase = 0#3 ∧ t.booting = false)

/-- 41_motor_sequencer R152, row by row, as what the event does: the new `seq`, the other writes, and nothing else. -/
def Obligations.ControlTransferTable : Prop :=
  (∀ (e : Event) (s : State), e.isRst = true → runEvent e s =
    .next { State.initial s.device with events := s.events, drawn := s.drawn }) ∧
  (∀ s : State, s.seq = .S_BOOT → 0 < s.boot_left → runEvent .step s =
    .next { s with seq := .S_APPLY, boot_left := s.boot_left - 1, phase := 0#3 }) ∧
  (∀ s : State, s.seq = .S_BOOT → s.boot_left = 0 → runEvent .step s =
    .next { s with seq := .S_DOZE, booting := false }) ∧
  (∀ (s : State) (k : Fin 6), s.seq = .S_APPLY → s.phase = BitVec.ofNat 3 k → runEvent .step s = .next { s with
    seq := .S_HOLD, pins := s.cfg.PT[k],
    obs := { s.obs with pin_trace := s.obs.pin_trace ++ [s.cfg.PT[k]], applies := s.obs.applies + 1 } }) ∧
  (∀ s : State, s.seq = .S_HOLD → s.phase < 5#3 → runEvent .step s =
    .next { s with seq := .S_APPLY, phase := s.phase + 1#3 }) ∧
  (∀ s : State, s.seq = .S_HOLD → s.phase = 5#3 → runEvent .step s = .next { s with seq := .S_NEUTRAL }) ∧
  (∀ s : State, s.seq = .S_NEUTRAL → s.booting = true → runEvent .step s = .next { s with
    seq := .S_BOOT, pins := s.cfg.NEUTRAL, phase := 0#3,
    obs := { s.obs with pin_trace := s.obs.pin_trace ++ [s.cfg.NEUTRAL] } }) ∧
  (∀ s : State, s.seq = .S_NEUTRAL → s.booting = false → runEvent .step s = .next { s with
    seq := .S_DOZE, pins := s.cfg.NEUTRAL, phase := 0#3,
    obs := { s.obs with pin_trace := s.obs.pin_trace ++ [s.cfg.NEUTRAL] } }) ∧
  (∀ s : State, s.seq = .S_CHECK → s.pulse_req = true → runEvent .step s = .next { s with seq := .S_CLEAR }) ∧
  (∀ s : State, s.seq = .S_CHECK → s.pulse_req = false → runEvent .step s = .next { s with seq := .S_DOZE }) ∧
  (∀ s : State, s.seq = .S_CLEAR → runEvent .step s = .next { s with
    seq := .S_APPLY, pulse_req := false, phase := 0#3, obs := { s.obs with clears := s.obs.clears + 1 } }) ∧
  (∀ s : State, s.seq = .S_DOZE → runEvent .step s = .next { s with seq := .S_SLEEP }) ∧
  (∀ s : State, s.seq = .S_SLEEP → ∃ t, runEvent .tick s = .next t ∧ exec .tick s = .next t ∧
    t = { s with seq := .S_CHECK, acc := t.acc, pulse_req := t.pulse_req, obs := t.obs }) ∧
  (∀ s : State, s.seq ≠ .S_SLEEP → ∃ t, runEvent .tick s = .next t ∧ exec .tick s = .next t ∧
    t = { s with acc := t.acc, pulse_req := t.pulse_req, obs := t.obs })

/-! ### Reset, launch, faults -/

/-- 70_reset_and_hazards R200: the reset value of every register, on every device. -/
def Obligations.ResetValues : Prop :=
  ∀ d : WfConfig,
    (State.initial d).acc = 0 ∧ (State.initial d).pulse_req = false ∧ (State.initial d).seq = .S_BOOT ∧
    (State.initial d).phase = 0#3 ∧ (State.initial d).boot_left = d.val.STARTUP_CYCLES ∧
    (State.initial d).booting = true ∧ (State.initial d).pins = d.val.NEUTRAL ∧ (State.initial d).device = d ∧
    (State.initial d).obs = { pin_trace := [], ticks := 0, fires := 0, applies := 0, clears := 0 }

/-- THE MODEL'S CHOICE (log entries 2 and 3, both DESIGN CHOICE): the device whose reset state `State.reset` is. Every
constant with a default in 00_scope R6 has it; nothing is said of the open ones. -/
def Obligations.ResetDeviceHasTheDefaults : Prop :=
  ∃ d : WfConfig, State.reset = State.initial d ∧ d.val.W = 32 ∧ d.val.I = 480000000 ∧ d.val.NEUTRAL = 0b000#3 ∧
    d.val.STARTUP_CYCLES = 180 ∧ d.val.BW = 8

/-- 00_scope R7: what well-formed means; a well-formed configuration is launched, any other refused by name. -/
def Obligations.LaunchRefusesIllFormed : Prop :=
  ∀ c : Config,
    (c.WF ↔ 1 ≤ c.T ∧ c.T ≤ c.I ∧ c.I + c.T ≤ 2 ^ c.W ∧ c.STARTUP_CYCLES ≤ 2 ^ c.BW - 1) ∧
    (∀ h : c.WF, launch c = .next (State.initial ⟨c, h⟩)) ∧
    (¬ c.WF → launch c = .refused .configNotWellFormed)

/-- 70_reset_and_hazards R223: what AtReset, NoRst and NoFault come to (the outcome as the record of a fault is the
model's choice, log entry 21), and that Reachable implies the invariants. A run that opens with RST, from whatever state,
and has no RST after it records no fault and ends in a reachable state. WF is stated by LaunchRefusesIllFormed. -/
def Obligations.LaunchPremises : Prop :=
  (∀ s : State, s.AtReset ↔ s.acc = 0 ∧ s.pulse_req = false ∧ s.seq = .S_BOOT ∧ s.phase = 0#3 ∧
    s.boot_left = s.cfg.STARTUP_CYCLES ∧ s.booting = true ∧ s.pins = s.cfg.NEUTRAL ∧
    s.obs = { pin_trace := [], ticks := 0, fires := 0, applies := 0, clears := 0 }) ∧
  (∀ tr : List Event, NoRst tr ↔ ∀ j, 1 ≤ j → tr[j]? ≠ some .rst ∧ tr[j]? ≠ some .rstTick) ∧
  (∀ (tr : List Event) (s : State), NoFault (runTrace tr s) ↔ ∃ t, runTrace tr s = .next t) ∧
  (∀ s : State, s.Reachable → s.Inv ∧ ∀ tr : List Event, NoFault (runTrace tr s)) ∧
  (∀ (s : State) (e : Event) (tr : List Event), e.isRst = true → NoRst (e :: tr) →
    NoFault (runTrace (e :: tr) s) ∧ ∃ t, runTrace (e :: tr) s = .next t ∧ t.Reachable)

/-- 60_exceptions R171, 30_encoding R88: a step faults exactly on a STEP of S_APPLY or S_HOLD with `phase > 5`, refuses
never, and a run that has faulted stays faulted whatever events follow. -/
def Obligations.FaultsExactly : Prop :=
  (∀ (e : Event) (s : State) (f : Fault), runEvent e s = .fault f ↔
    f = .phaseIndexOutOfRange ∧ e = .step ∧ (s.seq = .S_APPLY ∨ s.seq = .S_HOLD) ∧ 5#3 < s.phase) ∧
  (∀ (e : Event) (s : State) (r : Refusal), runEvent e s ≠ .refused r) ∧
  (∀ (tr more : List Event) (s : State) (f : Fault), runTrace tr s = .fault f → runTrace (tr ++ more) s = .fault f)

/-- 60_exceptions R170, 40_rate_accumulator R114, 41_motor_sequencer R153: in a state with the reachable invariants
every event, and every step, answers a next state; a TICK and an RST do in every state. -/
def Obligations.StepNeverStops : Prop :=
  (∀ (e : Event) (s : State), s.Inv → ∃ t, runEvent e s = .next t) ∧
  (∀ s : State, s.Inv → ∃ t, step s = .next t) ∧
  (∀ (e : Event) (s : State), e ≠ .step → ∃ t, runEvent e s = .next t)

/-- A scripted run of the machine is the run of its event trace (30_encoding R89): `k` steps of the core with the trace
at the head of the schedule do the trace's `k` events, and take nothing else from the schedule. -/
def Obligations.ScriptedRunIsTrace : Prop :=
  ∀ (tr rest : List Event) (s : State),
    Sys2Proof.core.run tr.length { s with events := tr ++ rest } = runTrace tr { s with events := rest }

/-! ### Invariants -/

/-- 10_state R31, R32: the invariants hold at reset, on every device. -/
def Obligations.InvAtReset : Prop :=
  (∀ d : WfConfig, (State.initial d).Inv) ∧ State.reset.Inv

/-- 10_state R31, R32: every step keeps the invariants, from every state that has them. -/
def Obligations.EveryStepKeepsInv : Prop :=
  ∀ s t : State, s.Inv → step s = .next t → t.Inv

/-- 10_state R31, R32: the invariants hold in every reachable state, and no trace from one ever stops. -/
def Obligations.ReachableStatesHaveInv : Prop :=
  ∀ s : State, s.Reachable →
    s.Inv ∧ ∀ tr : List Event, ∃ t, runTrace tr s = .next t ∧ t.Inv

/-- 95_test_vectors V64, 93_implementation_defined X5: the STEP selectors a reachable state can show, and the flag a
CLEAR finds; kept by every step and true at reset. -/
def Obligations.ReachableSelectors : Prop :=
  (∀ d : WfConfig, (State.initial d).SelectorInv) ∧
  (∀ s t : State, s.SelectorInv → step s = .next t → t.SelectorInv) ∧
  (∀ s : State, s.SelectorInv → selector .step s.seq s.phase ∈
    [0x00#8, 0x08#8, 0x09#8, 0x0A#8, 0x0B#8, 0x0C#8, 0x0D#8, 0x10#8, 0x11#8, 0x12#8, 0x13#8, 0x14#8, 0x15#8, 0x1D#8,
     0x20#8, 0x28#8, 0x30#8, 0x38#8])

/-- 41_motor_sequencer R134 to R141, 10_state R27: at each point of the sequence the lines show the code last applied,
and the neutral code outside a cycle; kept by every step and true at reset. -/
def Obligations.PinsShowThePosition : Prop :=
  (∀ d : WfConfig, (State.initial d).PinsInv) ∧
  (∀ s t : State, s.PinsInv → step s = .next t → t.PinsInv)

/-- 10_state R20, R21, R25: every step keeps `acc` and `boot_left` within their widths (the model holds both as natural
numbers, log entry 7). -/
def Obligations.RegistersFitWidths : Prop :=
  (∀ d : WfConfig, (State.initial d).FitsWidths) ∧
  (∀ s t : State, s.FitsWidths → step s = .next t → t.FitsWidths)

/-! ### Who may write what -/

/-- 10_state R28, R34, R36: no step changes a constant of the device, and nothing but taking the event touches the
schedule. -/
def Obligations.ConstantsNeverChange : Prop :=
  (∀ s t : State, step s = .next t → t.device = s.device) ∧
  (∀ (e : Event) (s t : State), runEvent e s = .next t →
    t.device = s.device ∧ t.events = s.events ∧ t.drawn = s.drawn)

/-- 10_state R30, the writes: what each agent leaves alone, and the one direction in which each writes the flag; the
only write of `seq` by TICK is S_CHECK over S_SLEEP. -/
def Obligations.WriteOwnership : Prop :=
  (∀ s t : State, runEvent .tick s = .next t →
    t.phase = s.phase ∧ t.boot_left = s.boot_left ∧ t.booting = s.booting ∧ t.pins = s.pins ∧
    (s.pulse_req = true → t.pulse_req = true) ∧
    (t.seq = s.seq ∨ s.seq = .S_SLEEP ∧ t.seq = .S_CHECK) ∧
    t.obs.pin_trace = s.obs.pin_trace ∧ t.obs.applies = s.obs.applies ∧ t.obs.clears = s.obs.clears) ∧
  (∀ s t : State, runEvent .step s = .next t →
    t.acc = s.acc ∧
    (t.pulse_req = s.pulse_req ∨ s.seq = .S_CLEAR ∧ t.pulse_req = false) ∧
    t.obs.ticks = s.obs.ticks ∧ t.obs.fires = s.obs.fires)

/-- 10_state R30, the reads: a STEP sees nothing of `acc`; a TICK sees nothing of the flag, the index, the startup
registers or the pins. -/
def Obligations.ReadOwnership : Prop :=
  (∀ (s t : State) (a : Nat), runEvent .step s = .next t → runEvent .step { s with acc := a } =
    .next { t with acc := a }) ∧
  (∀ s s' t : State, s'.device = s.device → s'.acc = s.acc → s'.seq = s.seq → runEvent .tick s = .next t →
    ∃ t', runEvent .tick s' = .next t' ∧ t'.acc = t.acc ∧ t'.seq = t.seq ∧
      t'.obs.fires - s'.obs.fires = t.obs.fires - s.obs.fires ∧
      t'.pulse_req = (s'.pulse_req || decide (t.obs.fires ≠ s.obs.fires)))

/-- 20_memory R63, R55, 10_state R27: the port is written by PHk, NEUTRAL and RESET only, with `PT[phase]` or `NEUTRAL`;
every write by a STEP, one that moves no line included, is recorded; and no event reads the port back: what it does to
everything else is the same whatever the lines show. -/
def Obligations.PortWrites : Prop :=
  (∀ (e : Event) (s t : State) (v : Code), runEvent e s = .next t →
    ∃ w, runEvent e { s with pins := v } = .next { t with pins := w }) ∧
  ∀ (e : Event) (s t : State), runEvent e s = .next t →
    (∃ k : Fin 6, e = .step ∧ s.seq = .S_APPLY ∧ s.phase = BitVec.ofNat 3 k ∧ t.pins = s.cfg.PT[k] ∧
      t.obs.pin_trace = s.obs.pin_trace ++ [s.cfg.PT[k]]) ∨
    (e = .step ∧ s.seq = .S_NEUTRAL ∧ t.pins = s.cfg.NEUTRAL ∧
      t.obs.pin_trace = s.obs.pin_trace ++ [s.cfg.NEUTRAL]) ∨
    (e.isRst = true ∧ t.pins = s.cfg.NEUTRAL ∧ t.obs.pin_trace = []) ∨
    (e.isRst = false ∧ ¬ (e = .step ∧ (s.seq = .S_APPLY ∨ s.seq = .S_NEUTRAL)) ∧
      t.pins = s.pins ∧ t.obs.pin_trace = s.obs.pin_trace)

/-- 10_state R25, R26: the startup phase runs once. Without RST `boot_left` only counts down, by one and only at a
BOOTNEXT that starts a cycle; `booting` never comes back, and falls only at the BOOTNEXT that finds `boot_left = 0`. -/
def Obligations.StartupRunsOnce : Prop :=
  ∀ (e : Event) (s t : State), e.isRst = false → runEvent e s = .next t →
    (t.boot_left = s.boot_left ∨
      e = .step ∧ s.seq = .S_BOOT ∧ 0 < s.boot_left ∧ t.boot_left + 1 = s.boot_left ∧ t.seq = .S_APPLY) ∧
    (t.booting = s.booting ∨
      e = .step ∧ s.seq = .S_BOOT ∧ s.boot_left = 0 ∧ t.booting = false ∧ t.seq = .S_DOZE)

/-- 70_reset_and_hazards R205, 60_exceptions R182: the output ports; `sleep` is 1 exactly in S_SLEEP. -/
def Obligations.OutputPorts : Prop :=
  ∀ s : State, s.ports.pins = s.pins ∧ s.ports.pulse_req = s.pulse_req ∧ s.ports.seq = s.seq.code ∧
    (s.ports.sleep = true ↔ s.seq = .S_SLEEP)

/-! ### Laws of the accumulator -/

/-- 40_rate_accumulator R116: no wrap, `acc < I` after every TICK, and `acc < T` after a fire; so `acc < I` after every
trace from reset; and with the defaults `W = 32` admits every `T <= I`. -/
def Obligations.TickNeverWraps : Prop :=
  (∀ s : State, s.acc < s.cfg.I →
    s.acc + s.cfg.T < 2 ^ s.cfg.W ∧
    ∃ t, exec .tick s = .next t ∧ t.acc < s.cfg.I ∧
      (s.acc + s.cfg.T < s.cfg.I → t.acc = s.acc + s.cfg.T ∧ t.pulse_req = s.pulse_req ∧ t.obs.fires = s.obs.fires) ∧
      (s.cfg.I ≤ s.acc + s.cfg.T → t.acc = s.acc + s.cfg.T - s.cfg.I ∧ t.acc < s.cfg.T ∧ t.pulse_req = true ∧
        t.obs.fires = s.obs.fires + 1)) ∧
  (∀ (d : WfConfig) (tr : List Event), ∃ t, runTrace tr (State.initial d) = .next t ∧ t.acc < d.val.I) ∧
  (∀ c : Config, c.W = 32 → c.I = 480000000 → c.BW = 8 → c.STARTUP_CYCLES = 180 → 1 ≤ c.T → c.T ≤ c.I → c.WF)

/-- 40_rate_accumulator R117: after a trace without RST the accumulator is the remainder and the fires are the quotient
of the ticked time, from any start `acc < I`, whatever STEPs are interleaved. -/
def Obligations.AccumulatorClosedForm : Prop :=
  (∀ (s t : State) (tr : List Event), s.acc < s.cfg.I → RstFree tr → runTrace tr s = .next t →
    t.acc = (tr.count .tick * s.cfg.T + s.acc) % s.cfg.I ∧
    t.obs.fires = s.obs.fires + (tr.count .tick * s.cfg.T + s.acc) / s.cfg.I) ∧
  (∀ (d : WfConfig) (tr : List Event), NoRst tr → ∃ t, runTrace tr (State.initial d) = .next t ∧
    t.obs.ticks = tr.count .tick ∧ t.acc = (t.obs.ticks * d.val.T) % d.val.I ∧
    t.obs.fires = (t.obs.ticks * d.val.T) / d.val.I)

/-- 40_rate_accumulator R119: the count of fires differs from `n * T / I` by less than 1, and is never above it. -/
def Obligations.RateConvergence : Prop :=
  ∀ (d : WfConfig) (tr : List Event), NoRst tr → ∃ t, runTrace tr (State.initial d) = .next t ∧
    t.obs.fires * d.val.I ≤ tr.count .tick * d.val.T ∧ tr.count .tick * d.val.T < (t.obs.fires + 1) * d.val.I

/-- 40_rate_accumulator R118: from a fire (`acc < T`) to the next one there are `floor(I / T)` or `ceil(I / T)` TICKs;
from `acc = 0` there are `ceil(I / T)`; the time accumulated between them exceeds `I - T`; the `j`-th fire after reset
falls in `[j * I, j * I + T)`; and when `T = I` every TICK fires and `acc` stays 0. -/
def Obligations.FireSpacing : Prop :=
  (∀ (s t u : State) (tr : List Event), s.acc < s.cfg.T → RstFree tr → runTrace tr s = .next t →
    t.obs.fires = s.obs.fires → runEvent .tick t = .next u → u.obs.fires = t.obs.fires + 1 →
    (tr.count .tick + 1 = s.cfg.I / s.cfg.T ∨ tr.count .tick + 1 = (s.cfg.I + s.cfg.T - 1) / s.cfg.T) ∧
    (s.acc = 0 → tr.count .tick + 1 = (s.cfg.I + s.cfg.T - 1) / s.cfg.T) ∧
    s.cfg.I < (tr.count .tick + 1) * s.cfg.T + s.cfg.T ∧ u.acc < s.cfg.T) ∧
  (∀ (d : WfConfig) (t u : State) (tr : List Event), NoRst tr → runTrace tr (State.initial d) = .next t →
    runEvent .tick t = .next u → u.obs.fires = t.obs.fires + 1 →
    u.obs.fires * d.val.I ≤ (tr.count .tick + 1) * d.val.T ∧
    (tr.count .tick + 1) * d.val.T < u.obs.fires * d.val.I + d.val.T) ∧
  (∀ s : State, s.cfg.T = s.cfg.I → s.acc = 0 →
    ∃ t, runEvent .tick s = .next t ∧ t.acc = 0 ∧ t.obs.fires = s.obs.fires + 1)

/-- 40_rate_accumulator R120, 20_memory R62: a TICK does not read the flag. A fire on a set flag leaves it set, and does
the same to every register as a fire on a clear one (the two requests become one); a TICK that does not fire leaves
the flag, and its arithmetic is the same either way. -/
def Obligations.FireOnSetFlag : Prop :=
  ∀ s t : State, runEvent .tick { s with pulse_req := false } = .next t →
    (t.obs.fires = s.obs.fires + 1 → t.pulse_req = true ∧ runEvent .tick { s with pulse_req := true } = .next t) ∧
    (t.obs.fires = s.obs.fires → t.pulse_req = false ∧
      runEvent .tick { s with pulse_req := true } = .next { t with pulse_req := true }) ∧
    (t.obs.fires = s.obs.fires + 1 ∨ t.obs.fires = s.obs.fires)

/-! ### Laws of the sequencer -/

/-- 41_motor_sequencer R145: thirteen STEPs from the start of a cycle, with any TICKs among them, perform the cycle's
operations in order, write the six codes and the neutral code in order, and end as the rule says; the startup registers
are left alone. -/
def Obligations.FullCycle : Prop :=
  ∀ (s : State) (tr : List Event), s.seq = .S_APPLY → s.phase = 0#3 → RstFree tr → tr.count .step = 13 →
    stepOps tr s = [.ph0, .holdend, .ph1, .holdend, .ph2, .holdend, .ph3, .holdend, .ph4, .holdend, .ph5, .holdend,
      .neutral] ∧
    ∃ t, runTrace tr s = .next t ∧ t.phase = 0#3 ∧ t.pins = s.cfg.NEUTRAL ∧
      t.seq = (if s.booting = true then .S_BOOT else .S_DOZE) ∧
      t.booting = s.booting ∧ t.boot_left = s.boot_left ∧ t.obs.applies = s.obs.applies + 6 ∧
      t.obs.pin_trace = s.obs.pin_trace ++ [s.cfg.PT[0], s.cfg.PT[1], s.cfg.PT[2], s.cfg.PT[3], s.cfg.PT[4],
        s.cfg.PT[5], s.cfg.NEUTRAL]

/-- 41_motor_sequencer R156: the writes to `pins` in any run from reset, whatever the ticks and the schedule. -/
def Obligations.PinWriteTrace : Prop :=
  ∀ (d : WfConfig) (tr : List Event), NoRst tr → ∃ t, runTrace tr (State.initial d) = .next t ∧
    ∀ (j : Nat) (v : Code), t.obs.pin_trace[j]? = some v →
      (∀ k : Fin 6, j % 7 = k → v = d.val.PT[k]) ∧ (j % 7 = 6 → v = d.val.NEUTRAL)

/-- 41_motor_sequencer R147: S_SLEEP is first reached at STEP number `14 * STARTUP_CYCLES + 2`, after
`6 * STARTUP_CYCLES` phase applications and `7 * STARTUP_CYCLES` port writes, whatever TICKs fell in between; a request
raised on the way is still pending. -/
def Obligations.StartupCount : Prop :=
  ∀ (d : WfConfig) (tr : List Event), NoRst tr → ∃ t, runTrace tr (State.initial d) = .next t ∧
    (tr.count .step < 14 * d.val.STARTUP_CYCLES + 2 → t.seq ≠ .S_SLEEP) ∧
    (tr.count .step = 14 * d.val.STARTUP_CYCLES + 2 → tr.getLast? = some .step →
      t.seq = .S_SLEEP ∧ t.obs.applies = 6 * d.val.STARTUP_CYCLES ∧
      t.obs.pin_trace.length = 7 * d.val.STARTUP_CYCLES ∧ t.obs.clears = 0 ∧
      (t.pulse_req = true ↔ 0 < t.obs.fires))

/-- 41_motor_sequencer R148: a wake that finds the flag clear costs one TICK, one CHECK and one SLEEP, and changes
`acc` and the count of ticks only. -/
def Obligations.IdleIsIdempotent : Prop :=
  ∀ s : State, s.seq = .S_SLEEP → s.pulse_req = false → (s.acc + s.cfg.T) % 2 ^ s.cfg.W < s.cfg.I →
    stepOps [.tick, .step, .step] s = [.check, .sleep] ∧
    runTrace [.tick, .step, .step] s = .next { s with
      acc := (s.acc + s.cfg.T) % 2 ^ s.cfg.W, obs := { s.obs with ticks := s.obs.ticks + 1 } }

/-- 41_motor_sequencer R149, 20_memory R64: a TICK that fires in a state other than S_SLEEP sets the flag and wakes
nothing; a set flag stays set until a CLEAR (or an RST); the CHECK after the TICK that finds the sequencer asleep reads
it as set, and the CLEAR after that begins a cycle. -/
def Obligations.DeferredService : Prop :=
  (∀ s : State, s.seq ≠ .S_SLEEP → s.cfg.I ≤ (s.acc + s.cfg.T) % 2 ^ s.cfg.W →
    ∃ t, runEvent .tick s = .next t ∧ t.pulse_req = true ∧ t.seq = s.seq) ∧
  (∀ (e : Event) (s t : State), s.pulse_req = true → runEvent e s = .next t →
    t.pulse_req = true ∨ e.isRst = true ∨ e = .step ∧ s.seq = .S_CLEAR) ∧
  (∀ s : State, s.seq = .S_SLEEP → s.pulse_req = true ∨ s.cfg.I ≤ (s.acc + s.cfg.T) % 2 ^ s.cfg.W →
    stepOps [.tick, .step, .step] s = [.check, .clear] ∧
    ∃ t, runTrace [.tick, .step, .step] s = .next t ∧ t.seq = .S_APPLY ∧ t.phase = 0#3 ∧ t.pulse_req = false ∧
      t.obs.clears = s.obs.clears + 1)

/-- 41_motor_sequencer R150: a fire in the read-clear window is merged with the request being served: the CLEAR that
follows wipes both, one cycle begins. -/
def Obligations.CoalescedInReadClearWindow : Prop :=
  ∀ s : State, s.seq = .S_CHECK → s.pulse_req = true → s.cfg.I ≤ (s.acc + s.cfg.T) % 2 ^ s.cfg.W →
    stepOps [.step, .tick, .step] s = [.check, .clear] ∧
    ∃ t, runTrace [.step, .tick, .step] s = .next t ∧ t.seq = .S_APPLY ∧ t.phase = 0#3 ∧ t.pulse_req = false ∧
      t.obs.fires = s.obs.fires + 1 ∧ t.obs.clears = s.obs.clears + 1

/-- 41_motor_sequencer R151: the accounting of requests in any run from reset with no further RST. -/
def Obligations.RequestAccounting : Prop :=
  ∀ (d : WfConfig) (tr : List Event), NoRst tr → ∃ t, runTrace tr (State.initial d) = .next t ∧
    countAlong (firesOnFlag false) tr (State.initial d) = t.obs.clears + (if t.pulse_req = true then 1 else 0) ∧
    countAlong (firesOnFlag false) tr (State.initial d) + countAlong (firesOnFlag true) tr (State.initial d) =
      t.obs.fires ∧
    countAlong (clearsOnFlag false) tr (State.initial d) = 0 ∧
    countAlong (clearsOnFlag true) tr (State.initial d) = t.obs.clears ∧
    countAlong beginsRequestedCycle tr (State.initial d) = t.obs.clears ∧
    countAlong beginsStartupCycle tr (State.initial d) + t.boot_left = d.val.STARTUP_CYCLES

/-- 41_motor_sequencer R154: a TICK among the STEPs of a cycle cannot disturb it: before or after the STEP, the result
is the same. -/
def Obligations.TickCommutesWithCycleSteps : Prop :=
  ∀ s : State, s.seq = .S_BOOT ∨ s.seq = .S_APPLY ∨ s.seq = .S_HOLD ∨ s.seq = .S_NEUTRAL →
    runTrace [.tick, .step] s = runTrace [.step, .tick] s

/-- 41_motor_sequencer R155: at most `14 * boot_left + 16` STEPs in a row bring the sequencer to S_SLEEP, and S_SLEEP is
left at every TICK. -/
def Obligations.Quiescence : Prop :=
  (∀ s : State, s.Inv → ∃ n t, n ≤ 14 * s.boot_left + 16 ∧
    runTrace (List.replicate n .step) s = .next t ∧ t.seq = .S_SLEEP) ∧
  (∀ s t : State, s.seq = .S_SLEEP → runEvent .tick s = .next t → t.seq = .S_CHECK)

/-- 70_reset_and_hazards R221, 41_motor_sequencer R151: on a fair schedule every set flag is found by a later CLEAR, and
that CLEAR is followed by a full cycle: six phase applications, then NEUTRAL, before any other CLEAR. -/
def Obligations.EveryRequestIsServed : Prop :=
  ∀ (sched : Nat → Event) (s : State), s.Inv → Fair sched s →
    ∀ (n : Nat) (t : State), runSchedule sched s n = .next t → t.pulse_req = true →
      ∃ m u, n ≤ m ∧ runSchedule sched s m = .next u ∧ sched m = .step ∧ u.seq = .S_CLEAR ∧ u.pulse_req = true ∧
        ∃ k v, m < k ∧ runSchedule sched s k = .next v ∧ sched k = .step ∧ v.seq = .S_NEUTRAL ∧
          v.obs.applies = u.obs.applies + 6 ∧ v.obs.clears = u.obs.clears + 1

/-! ### The clocked realisation -/

/-- 70_reset_and_hazards R206, 60_exceptions R174: one clock edge. Reset ignores a coincident tick; a hold counts down;
a sleeping sequencer performs no STEP; any other performs one; the TICK acts on the state that leaves; so a set wins
over a clear on one edge, a SLEEP with a tick on its edge is woken at once, and a sequencer that enters S_DOZE on such an
edge is not. No edge stops a block that has the reachable invariants. -/
def Obligations.ClockEdge : Prop :=
  (∀ (c : ClockedState) (tick : Bool), edge ⟨true, tick⟩ c = .next { c with
    block := { State.initial c.block.device with events := c.block.events, drawn := c.block.drawn },
    hold_cnt := 0 }) ∧
  (∀ (c d : ClockedState) (inp : EdgeInput), inp.rst = false → edge inp c = .next d →
    (c.block.seq = .S_HOLD → c.hold_cnt ≠ 0 →
      runTrace (tickOf inp.tick) c.block = .next d.block ∧ d.hold_cnt + 1 = c.hold_cnt) ∧
    (c.block.seq = .S_SLEEP → runTrace (tickOf inp.tick) c.block = .next d.block ∧ d.hold_cnt = c.hold_cnt) ∧
    (c.block.seq ≠ .S_SLEEP → (c.block.seq = .S_HOLD → c.hold_cnt = 0) →
      runTrace (.step :: tickOf inp.tick) c.block = .next d.block) ∧
    d.block.pulse_req = (c.block.pulse_req && decide (c.block.seq ≠ .S_CLEAR) ||
      inp.tick && decide (c.block.cfg.I ≤ (c.block.acc + c.block.cfg.T) % 2 ^ c.block.cfg.W)) ∧
    (c.block.seq = .S_DOZE → inp.tick = true → d.block.seq = .S_CHECK) ∧
    (c.block.seq = .S_CHECK → c.block.pulse_req = false → d.block.seq = .S_DOZE)) ∧
  (∀ (c : ClockedState) (inp : EdgeInput), c.block.Inv → ∃ d, edge inp c = .next d)

/-- 70_reset_and_hazards R207, R214: a PHk loads the hold counter, the code stays on the pins through the hold, HOLDEND
falls on the edge `HOLD_CYCLES + 1` after the PHk, and a choice that meets the duty of R207 holds the code for at least
`HOLD_MIN`; RESET loads 0. -/
def Obligations.HoldLastsHoldCycles : Prop :=
  (∀ (c d : ClockedState) (tick : Bool), edge ⟨true, tick⟩ c = .next d → d.hold_cnt = 0) ∧
  (∀ (c d : ClockedState) (first : EdgeInput) (more : List EdgeInput) (k : Fin 6),
    c.block.seq = .S_APPLY → c.block.phase = BitVec.ofNat 3 k → (∀ i ∈ first :: more, i.rst = false) →
    runEdges (first :: more) c = .next d →
    (more.length ≤ c.hold.HOLD_CYCLES →
      d.block.seq = .S_HOLD ∧ d.block.pins = c.block.cfg.PT[k] ∧ d.hold_cnt + more.length = c.hold.HOLD_CYCLES) ∧
    (more.length = c.hold.HOLD_CYCLES + 1 →
      d.block.seq = (if c.block.phase = 5#3 then .S_NEUTRAL else .S_APPLY) ∧ d.block.pins = c.block.cfg.PT[k]) ∧
    (c.hold.meetsHoldMin c.block.cfg → more.length * c.hold.t_clk < c.block.cfg.HOLD_MIN →
      d.block.seq = .S_HOLD ∧ d.block.pins = c.block.cfg.PT[k]))

/-- 70_reset_and_hazards R208: every run of the clocked realisation, its hold counter hidden, is a run of the event
model, each edge being one RST, or at most one STEP and then its TICK; and outside S_SLEEP and S_HOLD an edge performs
exactly one STEP, so no two TICKs fall between two STEPs there. -/
def Obligations.ClockedRefinesEvents : Prop :=
  (∀ (inps : List EdgeInput) (c d : ClockedState), runEdges inps c = .next d →
    ∃ trs : List (List Event), List.Forall₂ EdgeEvents inps trs ∧ runTrace trs.flatten c.block = .next d.block) ∧
  (∀ (inp : EdgeInput) (c d : ClockedState), inp.rst = false → c.block.seq ≠ .S_SLEEP → c.block.seq ≠ .S_HOLD →
    edge inp c = .next d → runTrace (.step :: tickOf inp.tick) c.block = .next d.block)
end

