-- ==== Sys2Proof/Laws/State.lean ====
section
/-! SUPPORT. What each register write leaves in each field, so that no later proof unfolds a record update. -/

namespace Sys2Proof.Machine

section
variable (s : State)

@[simp] theorem State.setAcc_device (v : Nat) : (s.setAcc v).device = s.device := rfl
@[simp] theorem State.setAcc_cfg (v : Nat) : (s.setAcc v).cfg = s.cfg := rfl
@[simp] theorem State.setAcc_acc (v : Nat) : (s.setAcc v).acc = v := rfl
@[simp] theorem State.setAcc_pulse_req (v : Nat) : (s.setAcc v).pulse_req = s.pulse_req := rfl
@[simp] theorem State.setAcc_seq (v : Nat) : (s.setAcc v).seq = s.seq := rfl
@[simp] theorem State.setAcc_phase (v : Nat) : (s.setAcc v).phase = s.phase := rfl
@[simp] theorem State.setAcc_boot_left (v : Nat) : (s.setAcc v).boot_left = s.boot_left := rfl
@[simp] theorem State.setAcc_booting (v : Nat) : (s.setAcc v).booting = s.booting := rfl
@[simp] theorem State.setAcc_pins (v : Nat) : (s.setAcc v).pins = s.pins := rfl
@[simp] theorem State.setAcc_obs (v : Nat) : (s.setAcc v).obs = s.obs := rfl
@[simp] theorem State.setAcc_events (v : Nat) : (s.setAcc v).events = s.events := rfl
@[simp] theorem State.setAcc_drawn (v : Nat) : (s.setAcc v).drawn = s.drawn := rfl

@[simp] theorem State.goto_device (q : Seq) : (s.goto q).device = s.device := rfl
@[simp] theorem State.goto_cfg (q : Seq) : (s.goto q).cfg = s.cfg := rfl
@[simp] theorem State.goto_acc (q : Seq) : (s.goto q).acc = s.acc := rfl
@[simp] theorem State.goto_pulse_req (q : Seq) : (s.goto q).pulse_req = s.pulse_req := rfl
@[simp] theorem State.goto_seq (q : Seq) : (s.goto q).seq = q := rfl
@[simp] theorem State.goto_phase (q : Seq) : (s.goto q).phase = s.phase := rfl
@[simp] theorem State.goto_boot_left (q : Seq) : (s.goto q).boot_left = s.boot_left := rfl
@[simp] theorem State.goto_booting (q : Seq) : (s.goto q).booting = s.booting := rfl
@[simp] theorem State.goto_pins (q : Seq) : (s.goto q).pins = s.pins := rfl
@[simp] theorem State.goto_obs (q : Seq) : (s.goto q).obs = s.obs := rfl
@[simp] theorem State.goto_events (q : Seq) : (s.goto q).events = s.events := rfl
@[simp] theorem State.goto_drawn (q : Seq) : (s.goto q).drawn = s.drawn := rfl

@[simp] theorem State.setPhase_device (p : Code) : (s.setPhase p).device = s.device := rfl
@[simp] theorem State.setPhase_cfg (p : Code) : (s.setPhase p).cfg = s.cfg := rfl
@[simp] theorem State.setPhase_acc (p : Code) : (s.setPhase p).acc = s.acc := rfl
@[simp] theorem State.setPhase_pulse_req (p : Code) : (s.setPhase p).pulse_req = s.pulse_req := rfl
@[simp] theorem State.setPhase_seq (p : Code) : (s.setPhase p).seq = s.seq := rfl
@[simp] theorem State.setPhase_phase (p : Code) : (s.setPhase p).phase = p := rfl
@[simp] theorem State.setPhase_boot_left (p : Code) : (s.setPhase p).boot_left = s.boot_left := rfl
@[simp] theorem State.setPhase_booting (p : Code) : (s.setPhase p).booting = s.booting := rfl
@[simp] theorem State.setPhase_pins (p : Code) : (s.setPhase p).pins = s.pins := rfl
@[simp] theorem State.setPhase_obs (p : Code) : (s.setPhase p).obs = s.obs := rfl
@[simp] theorem State.setPhase_events (p : Code) : (s.setPhase p).events = s.events := rfl
@[simp] theorem State.setPhase_drawn (p : Code) : (s.setPhase p).drawn = s.drawn := rfl

@[simp] theorem State.setBootLeft_device (n : Nat) : (s.setBootLeft n).device = s.device := rfl
@[simp] theorem State.setBootLeft_cfg (n : Nat) : (s.setBootLeft n).cfg = s.cfg := rfl
@[simp] theorem State.setBootLeft_acc (n : Nat) : (s.setBootLeft n).acc = s.acc := rfl
@[simp] theorem State.setBootLeft_pulse_req (n : Nat) : (s.setBootLeft n).pulse_req = s.pulse_req := rfl
@[simp] theorem State.setBootLeft_seq (n : Nat) : (s.setBootLeft n).seq = s.seq := rfl
@[simp] theorem State.setBootLeft_phase (n : Nat) : (s.setBootLeft n).phase = s.phase := rfl
@[simp] theorem State.setBootLeft_boot_left (n : Nat) : (s.setBootLeft n).boot_left = n := rfl
@[simp] theorem State.setBootLeft_booting (n : Nat) : (s.setBootLeft n).booting = s.booting := rfl
@[simp] theorem State.setBootLeft_pins (n : Nat) : (s.setBootLeft n).pins = s.pins := rfl
@[simp] theorem State.setBootLeft_obs (n : Nat) : (s.setBootLeft n).obs = s.obs := rfl
@[simp] theorem State.setBootLeft_events (n : Nat) : (s.setBootLeft n).events = s.events := rfl
@[simp] theorem State.setBootLeft_drawn (n : Nat) : (s.setBootLeft n).drawn = s.drawn := rfl

@[simp] theorem State.setBooting_device (b : Bool) : (s.setBooting b).device = s.device := rfl
@[simp] theorem State.setBooting_cfg (b : Bool) : (s.setBooting b).cfg = s.cfg := rfl
@[simp] theorem State.setBooting_acc (b : Bool) : (s.setBooting b).acc = s.acc := rfl
@[simp] theorem State.setBooting_pulse_req (b : Bool) : (s.setBooting b).pulse_req = s.pulse_req := rfl
@[simp] theorem State.setBooting_seq (b : Bool) : (s.setBooting b).seq = s.seq := rfl
@[simp] theorem State.setBooting_phase (b : Bool) : (s.setBooting b).phase = s.phase := rfl
@[simp] theorem State.setBooting_boot_left (b : Bool) : (s.setBooting b).boot_left = s.boot_left := rfl
@[simp] theorem State.setBooting_booting (b : Bool) : (s.setBooting b).booting = b := rfl
@[simp] theorem State.setBooting_pins (b : Bool) : (s.setBooting b).pins = s.pins := rfl
@[simp] theorem State.setBooting_obs (b : Bool) : (s.setBooting b).obs = s.obs := rfl
@[simp] theorem State.setBooting_events (b : Bool) : (s.setBooting b).events = s.events := rfl
@[simp] theorem State.setBooting_drawn (b : Bool) : (s.setBooting b).drawn = s.drawn := rfl

@[simp] theorem State.setPins_device (v : Code) : (s.setPins v).device = s.device := rfl
@[simp] theorem State.setPins_cfg (v : Code) : (s.setPins v).cfg = s.cfg := rfl
@[simp] theorem State.setPins_acc (v : Code) : (s.setPins v).acc = s.acc := rfl
@[simp] theorem State.setPins_pulse_req (v : Code) : (s.setPins v).pulse_req = s.pulse_req := rfl
@[simp] theorem State.setPins_seq (v : Code) : (s.setPins v).seq = s.seq := rfl
@[simp] theorem State.setPins_phase (v : Code) : (s.setPins v).phase = s.phase := rfl
@[simp] theorem State.setPins_boot_left (v : Code) : (s.setPins v).boot_left = s.boot_left := rfl
@[simp] theorem State.setPins_booting (v : Code) : (s.setPins v).booting = s.booting := rfl
@[simp] theorem State.setPins_pins (v : Code) : (s.setPins v).pins = v := rfl
@[simp] theorem State.setPins_obs (v : Code) : (s.setPins v).obs = s.obs := rfl
@[simp] theorem State.setPins_events (v : Code) : (s.setPins v).events = s.events := rfl
@[simp] theorem State.setPins_drawn (v : Code) : (s.setPins v).drawn = s.drawn := rfl

@[simp] theorem State.setObs_device (o : Observer) : (s.setObs o).device = s.device := rfl
@[simp] theorem State.setObs_cfg (o : Observer) : (s.setObs o).cfg = s.cfg := rfl
@[simp] theorem State.setObs_acc (o : Observer) : (s.setObs o).acc = s.acc := rfl
@[simp] theorem State.setObs_pulse_req (o : Observer) : (s.setObs o).pulse_req = s.pulse_req := rfl
@[simp] theorem State.setObs_seq (o : Observer) : (s.setObs o).seq = s.seq := rfl
@[simp] theorem State.setObs_phase (o : Observer) : (s.setObs o).phase = s.phase := rfl
@[simp] theorem State.setObs_boot_left (o : Observer) : (s.setObs o).boot_left = s.boot_left := rfl
@[simp] theorem State.setObs_booting (o : Observer) : (s.setObs o).booting = s.booting := rfl
@[simp] theorem State.setObs_pins (o : Observer) : (s.setObs o).pins = s.pins := rfl
@[simp] theorem State.setObs_obs (o : Observer) : (s.setObs o).obs = o := rfl
@[simp] theorem State.setObs_events (o : Observer) : (s.setObs o).events = s.events := rfl
@[simp] theorem State.setObs_drawn (o : Observer) : (s.setObs o).drawn = s.drawn := rfl

@[simp] theorem State.setRequest_device : (s.setRequest).device = s.device := rfl
@[simp] theorem State.setRequest_cfg : (s.setRequest).cfg = s.cfg := rfl
@[simp] theorem State.setRequest_acc : (s.setRequest).acc = s.acc := rfl
@[simp] theorem State.setRequest_pulse_req : (s.setRequest).pulse_req = true := rfl
@[simp] theorem State.setRequest_seq : (s.setRequest).seq = s.seq := rfl
@[simp] theorem State.setRequest_phase : (s.setRequest).phase = s.phase := rfl
@[simp] theorem State.setRequest_boot_left : (s.setRequest).boot_left = s.boot_left := rfl
@[simp] theorem State.setRequest_booting : (s.setRequest).booting = s.booting := rfl
@[simp] theorem State.setRequest_pins : (s.setRequest).pins = s.pins := rfl
@[simp] theorem State.setRequest_obs : (s.setRequest).obs = s.obs := rfl
@[simp] theorem State.setRequest_events : (s.setRequest).events = s.events := rfl
@[simp] theorem State.setRequest_drawn : (s.setRequest).drawn = s.drawn := rfl

@[simp] theorem State.clearRequest_device : (s.clearRequest).device = s.device := rfl
@[simp] theorem State.clearRequest_cfg : (s.clearRequest).cfg = s.cfg := rfl
@[simp] theorem State.clearRequest_acc : (s.clearRequest).acc = s.acc := rfl
@[simp] theorem State.clearRequest_pulse_req : (s.clearRequest).pulse_req = false := rfl
@[simp] theorem State.clearRequest_seq : (s.clearRequest).seq = s.seq := rfl
@[simp] theorem State.clearRequest_phase : (s.clearRequest).phase = s.phase := rfl
@[simp] theorem State.clearRequest_boot_left : (s.clearRequest).boot_left = s.boot_left := rfl
@[simp] theorem State.clearRequest_booting : (s.clearRequest).booting = s.booting := rfl
@[simp] theorem State.clearRequest_pins : (s.clearRequest).pins = s.pins := rfl
@[simp] theorem State.clearRequest_obs : (s.clearRequest).obs = s.obs := rfl
@[simp] theorem State.clearRequest_events : (s.clearRequest).events = s.events := rfl
@[simp] theorem State.clearRequest_drawn : (s.clearRequest).drawn = s.drawn := rfl

end

end Sys2Proof.Machine
end

