-- ==== Sys2Proof/Laws/Ops.lean ====
section
/-! SUPPORT. One lemma per shared operation, saying once everything it does. -/

namespace Sys2Proof.Machine

/-! ### Sequencing -/

section
variable {σ τ φ ρ : Type} (f : σ → Host.Outcome τ φ ρ)

@[simp] theorem andThen_next (s : σ) : andThen (.next s : Host.Outcome σ φ ρ) f = f s := rfl

@[simp] theorem andThen_fault (x : φ) : andThen (.fault x : Host.Outcome σ φ ρ) f = .fault x := rfl

@[simp] theorem andThen_refused (x : ρ) : andThen (.refused x : Host.Outcome σ φ ρ) f = .refused x := rfl

/-- A sequence answers a next state exactly through an intermediate one. -/
theorem andThen_eq_next {r : Host.Outcome σ φ ρ} {t : τ} :
    andThen r f = .next t ↔ ∃ s, r = .next s ∧ f s = .next t := by
  cases r <;> simp [andThen]

end

/-! ### The composed writes -/

/-- A port write by a STEP changes `pins` and the pin-write trace. -/
theorem State.drivePins_eq (s : State) (v : Code) :
    s.drivePins v = { s with pins := v, obs := { s.obs with pin_trace := s.obs.pin_trace ++ [v] } } := rfl

/-- The start of a cycle changes `phase` and `seq`. -/
theorem State.startCycle_eq (s : State) : s.startCycle = { s with phase := 0#3, seq := .S_APPLY } := rfl

/-- A phase application changes `pins`, `seq` and the records. -/
theorem State.applyPhase_eq (s : State) (k : Fin 6) :
    s.applyPhase k = { s with
      pins := s.cfg.PT[k], seq := .S_HOLD,
      obs := { s.obs with pin_trace := s.obs.pin_trace ++ [s.cfg.PT[k]], applies := s.obs.applies + 1 } } := rfl

/-- RESET leaves the reset state of the same device, the schedule untouched. -/
theorem State.resetRegisters_eq (s : State) :
    s.resetRegisters = { State.initial s.device with events := s.events, drawn := s.drawn } := rfl

/-- A firing TICK: carry, flag, records. -/
theorem State.accumulate_of_fires {s : State} (h : s.fires = true) :
    s.accumulate = { s with
      acc := (s.tickSum - s.cfg.I) % 2 ^ s.cfg.W, pulse_req := true,
      obs := { s.obs with ticks := s.obs.ticks + 1, fires := s.obs.fires + 1 } } := by
  simp only [State.accumulate, h, if_true]; rfl

/-- A TICK that does not fire: the sum, and the tick recorded. -/
theorem State.accumulate_of_not_fires {s : State} (h : s.fires = false) :
    s.accumulate = { s with acc := s.tickSum, obs := { s.obs with ticks := s.obs.ticks + 1 } } := by
  simp only [State.accumulate, h]; rfl

/-- The accumulator's part of a TICK writes `acc`, `pulse_req` and the records only (10_state R30). -/
theorem State.accumulate_eq (s : State) :
    s.accumulate = { s with acc := s.accumulate.acc, pulse_req := s.pulse_req || s.fires, obs := s.accumulate.obs } := by
  cases h : s.fires
  · simp [State.accumulate_of_not_fires h]
  · simp [State.accumulate_of_fires h]

/-- The wake, on a sleeping sequencer. -/
theorem State.wake_of_sleep {s : State} (h : s.seq = .S_SLEEP) : s.wake = s.goto .S_CHECK := if_pos h

/-- The wake, on any other. -/
theorem State.wake_of_not_sleep {s : State} (h : s.seq ≠ .S_SLEEP) : s.wake = s := if_neg h

/-- The wake writes `seq` only. -/
theorem State.wake_eq (s : State) :
    s.wake = { s with seq := if s.seq = .S_SLEEP then .S_CHECK else s.seq } := by
  by_cases h : s.seq = .S_SLEEP
  · simp [State.wake, h, State.goto]
  · simp [State.wake, h]

end Sys2Proof.Machine
end

