-- ==== Sys2Proof/Laws/Event.lean ====
section
/-! SUPPORT. What one event can do, said once: the decoder on the selector an event shows, the operation each event
performs in each state, and the inversion of an event that answers a next state. -/

namespace Sys2Proof

/-- The decoder reads back the fields a selector was formed from (30_encoding R83, R84). -/
theorem decode_selector (e : Event) (q : Seq) (p : Code) :
    decode (selector e q p) =
      match e with
      | .rst => .ok .reset
      | .rstTick => .ok .reset
      | .tick => .ok .tick
      | .step => decodeStep q p := by
  cases e <;> cases q <;> revert p <;> decide

@[simp] theorem eventField_selector (e : Event) (q : Seq) (p : Code) : eventField (selector e q p) = e := by
  cases e <;> cases q <;> revert p <;> decide

@[simp] theorem seqField_selector (e : Event) (q : Seq) (p : Code) : seqField (selector e q p) = q := by
  cases e <;> cases q <;> revert p <;> decide

@[simp] theorem phaseField_selector (e : Event) (q : Seq) (p : Code) : phaseField (selector e q p) = p := by
  cases e <;> cases q <;> revert p <;> decide

end Sys2Proof

namespace Sys2Proof.Machine

/-! ### What each event performs -/

@[simp] theorem runEvent_rst (s : State) : runEvent .rst s = execReset s := by
  simp [runEvent, State.selector, decode_selector, exec]

@[simp] theorem runEvent_rstTick (s : State) : runEvent .rstTick s = execReset s := by
  simp [runEvent, State.selector, decode_selector, exec]

@[simp] theorem runEvent_tick (s : State) : runEvent .tick s = execTick s := by
  simp [runEvent, State.selector, decode_selector, exec]

theorem runEvent_step_boot {s : State} (h : s.seq = .S_BOOT) : runEvent .step s = execBootnext s := by
  simp [runEvent, State.selector, decode_selector, decodeStep, h, exec]

theorem runEvent_step_neutral {s : State} (h : s.seq = .S_NEUTRAL) : runEvent .step s = execNeutral s := by
  simp [runEvent, State.selector, decode_selector, decodeStep, h, exec]

theorem runEvent_step_sleep {s : State} (h : s.seq = .S_SLEEP) : runEvent .step s = .next s := by
  simp [runEvent, State.selector, decode_selector, decodeStep, h, exec, execWait]

theorem runEvent_step_check {s : State} (h : s.seq = .S_CHECK) : runEvent .step s = execCheck s := by
  simp [runEvent, State.selector, decode_selector, decodeStep, h, exec]

theorem runEvent_step_clear {s : State} (h : s.seq = .S_CLEAR) : runEvent .step s = execClear s := by
  simp [runEvent, State.selector, decode_selector, decodeStep, h, exec]

theorem runEvent_step_doze {s : State} (h : s.seq = .S_DOZE) : runEvent .step s = execSleep s := by
  simp [runEvent, State.selector, decode_selector, decodeStep, h, exec]

/-- A STEP of S_APPLY applies the phase code of its index. -/
theorem runEvent_step_apply {s : State} (k : Fin 6) (h : s.seq = .S_APPLY) (hp : s.phase = BitVec.ofNat 3 k) :
    runEvent .step s = .next (s.applyPhase k) := by
  simp only [runEvent, State.selector, decode_selector, decodeStep, h, hp]
  fin_cases k <;> rfl

/-- A STEP of S_HOLD ends the hold, on every index. -/
theorem runEvent_step_hold {s : State} (h : s.seq = .S_HOLD) : runEvent .step s = execHoldend s := by
  simp only [runEvent, State.selector, decode_selector, decodeStep, h]
  by_cases hp : s.phase ≤ 5#3
  · simp [hp, exec]
  · have h5 : s.phase ≠ 5#3 := fun e => hp (e ▸ BitVec.le_refl _)
    have hlt : ¬ s.phase < 5#3 := fun e => hp (BitVec.le_of_lt e)
    simp [hp, execHoldend, h5, hlt, reservedFault]

/-- A phase that has a table entry is one of the six indices. -/
theorem phase_index {p : Code} (h : p ≤ 5#3) : ∃ k : Fin 6, p = BitVec.ofNat 3 k := by
  revert h; revert p; decide

/-- A STEP of S_APPLY or S_HOLD on an index without an entry faults (60_exceptions R171). -/
theorem runEvent_step_out_of_range {s : State} (h : s.seq = .S_APPLY ∨ s.seq = .S_HOLD) (hp : ¬ s.phase ≤ 5#3) :
    runEvent .step s = .fault .phaseIndexOutOfRange := by
  rcases h with h | h
  · have : decodePhase s.phase = .error .phaseIndexOutOfRange := by
      revert hp; generalize s.phase = p; revert p; decide
    simp [runEvent, State.selector, decode_selector, decodeStep, h, this, reservedFault]
  · simp [runEvent, State.selector, decode_selector, decodeStep, h, hp, reservedFault]

/-! ### Everything an event can do -/

/-- What event `e` does from `s` when it answers a next state: one case per row of 41_motor_sequencer R152, the TICK
being split by whether it fires (40_rate_accumulator R112), and WAIT (R144). Every register is written out. -/
inductive Does (s : State) : Event → State → Prop where
  | reset {e : Event} (he : e.isRst = true) :
      Does s e { State.initial s.device with events := s.events, drawn := s.drawn }
  | tickQuiet (hf : s.fires = false) :
      Does s .tick { s with
        acc := s.tickSum, seq := if s.seq = .S_SLEEP then .S_CHECK else s.seq,
        obs := { s.obs with ticks := s.obs.ticks + 1 } }
  | tickFire (hf : s.fires = true) :
      Does s .tick { s with
        acc := (s.tickSum - s.cfg.I) % 2 ^ s.cfg.W, pulse_req := true,
        seq := if s.seq = .S_SLEEP then .S_CHECK else s.seq,
        obs := { s.obs with ticks := s.obs.ticks + 1, fires := s.obs.fires + 1 } }
  | bootLast (hq : s.seq = .S_BOOT) (hb : s.boot_left = 0) :
      Does s .step { s with booting := false, seq := .S_DOZE }
  | bootCycle (hq : s.seq = .S_BOOT) (hb : s.boot_left ≠ 0) :
      Does s .step { s with boot_left := s.boot_left - 1, phase := 0#3, seq := .S_APPLY }
  | apply (k : Fin 6) (hq : s.seq = .S_APPLY) (hp : s.phase = BitVec.ofNat 3 k) :
      Does s .step { s with
        pins := s.cfg.PT[k], seq := .S_HOLD,
        obs := { s.obs with pin_trace := s.obs.pin_trace ++ [s.cfg.PT[k]], applies := s.obs.applies + 1 } }
  | holdLast (hq : s.seq = .S_HOLD) (hp : s.phase = 5#3) : Does s .step { s with seq := .S_NEUTRAL }
  | holdNext (hq : s.seq = .S_HOLD) (hp : s.phase < 5#3) :
      Does s .step { s with phase := s.phase + 1#3, seq := .S_APPLY }
  | neutral (hq : s.seq = .S_NEUTRAL) :
      Does s .step { s with
        pins := s.cfg.NEUTRAL, phase := 0#3, seq := if s.booting then .S_BOOT else .S_DOZE,
        obs := { s.obs with pin_trace := s.obs.pin_trace ++ [s.cfg.NEUTRAL] } }
  | wait (hq : s.seq = .S_SLEEP) : Does s .step s
  | check (hq : s.seq = .S_CHECK) : Does s .step { s with seq := if s.pulse_req then .S_CLEAR else .S_DOZE }
  | clear (hq : s.seq = .S_CLEAR) :
      Does s .step { s with
        pulse_req := false, phase := 0#3, seq := .S_APPLY, obs := { s.obs with clears := s.obs.clears + 1 } }
  | sleep (hq : s.seq = .S_DOZE) : Does s .step { s with seq := .S_SLEEP }

/-- A TICK does one of its two cases. -/
theorem execTick_quiet {s : State} (hf : s.fires = false) :
    execTick s = .next { s with
      acc := s.tickSum, seq := if s.seq = .S_SLEEP then .S_CHECK else s.seq,
      obs := { s.obs with ticks := s.obs.ticks + 1 } } := by
  rw [execTick, State.wake_eq, State.accumulate_of_not_fires hf]

/-- A TICK that fires. -/
theorem execTick_fire {s : State} (hf : s.fires = true) :
    execTick s = .next { s with
      acc := (s.tickSum - s.cfg.I) % 2 ^ s.cfg.W, pulse_req := true,
      seq := if s.seq = .S_SLEEP then .S_CHECK else s.seq,
      obs := { s.obs with ticks := s.obs.ticks + 1, fires := s.obs.fires + 1 } } := by
  rw [execTick, State.wake_eq, State.accumulate_of_fires hf]

/-- The inversion of an event: what it answers is what its case says. -/
theorem does_of_runEvent {e : Event} {s t : State} (h : runEvent e s = .next t) : Does s e t := by
  cases e with
  | rst => rw [runEvent_rst] at h; cases h; exact .reset rfl
  | rstTick => rw [runEvent_rstTick] at h; cases h; exact .reset rfl
  | tick =>
    rw [runEvent_tick] at h
    cases hf : s.fires with
    | false => rw [execTick_quiet hf] at h; cases h; exact .tickQuiet hf
    | true => rw [execTick_fire hf] at h; cases h; exact .tickFire hf
  | step =>
    cases hq : s.seq with
    | S_BOOT =>
      rw [runEvent_step_boot hq, execBootnext] at h
      by_cases hb : s.boot_left = 0
      · rw [if_pos hb] at h; cases h; exact .bootLast hq hb
      · rw [if_neg hb] at h; cases h; exact .bootCycle hq hb
    | S_APPLY =>
      by_cases hp : s.phase ≤ 5#3
      · obtain ⟨k, hk⟩ := phase_index hp
        rw [runEvent_step_apply k hq hk] at h; cases h; exact .apply k hq hk
      · rw [runEvent_step_out_of_range (.inl hq) hp] at h; cases h
    | S_HOLD =>
      rw [runEvent_step_hold hq, execHoldend] at h
      by_cases h5 : s.phase = 5#3
      · rw [if_pos h5] at h; cases h; exact .holdLast hq h5
      · rw [if_neg h5] at h
        by_cases hl : s.phase < 5#3
        · rw [if_pos hl] at h; cases h; exact .holdNext hq hl
        · rw [if_neg hl] at h; cases h
    | S_NEUTRAL => rw [runEvent_step_neutral hq] at h; cases h; exact .neutral hq
    | S_SLEEP => rw [runEvent_step_sleep hq] at h; cases h; exact .wait hq
    | S_CHECK => rw [runEvent_step_check hq] at h; cases h; exact .check hq
    | S_CLEAR => rw [runEvent_step_clear hq] at h; cases h; exact .clear hq
    | S_DOZE => rw [runEvent_step_doze hq] at h; cases h; exact .sleep hq

/-- The other direction: every case is what the event answers. -/
theorem runEvent_of_does {e : Event} {s t : State} (h : Does s e t) : runEvent e s = .next t := by
  cases h with
  | reset he =>
    cases e with
    | rst => rw [runEvent_rst]; rfl
    | rstTick => rw [runEvent_rstTick]; rfl
    | step => cases he
    | tick => cases he
  | tickQuiet hf => rw [runEvent_tick, execTick_quiet hf]
  | tickFire hf => rw [runEvent_tick, execTick_fire hf]
  | bootLast hq hb => rw [runEvent_step_boot hq, execBootnext, if_pos hb]; rfl
  | bootCycle hq hb => rw [runEvent_step_boot hq, execBootnext, if_neg hb]; rfl
  | apply k hq hp => rw [runEvent_step_apply k hq hp]; rfl
  | holdLast hq hp => rw [runEvent_step_hold hq, execHoldend, if_pos hp]; rfl
  | holdNext hq hp => rw [runEvent_step_hold hq, execHoldend, if_neg (BitVec.ne_of_lt hp), if_pos hp]; rfl
  | neutral hq => rw [runEvent_step_neutral hq]; rfl
  | wait hq => exact runEvent_step_sleep hq
  | check hq => rw [runEvent_step_check hq]; rfl
  | clear hq => rw [runEvent_step_clear hq]; rfl
  | sleep hq => rw [runEvent_step_doze hq]; rfl

/-- An event answers a next state exactly by one of the cases. -/
theorem runEvent_eq_next_iff {e : Event} {s t : State} : runEvent e s = .next t ↔ Does s e t :=
  ⟨does_of_runEvent, runEvent_of_does⟩

/-- The schedule is no operand of any operation: an event does the same whatever is scheduled, and leaves it. -/
theorem Does.withSchedule {e : Event} {s t : State} (h : Does s e t) (es : List Event) (n : Nat) :
    Does { s with events := es, drawn := n } e { t with events := es, drawn := n } := by
  cases h with
  | reset he => exact .reset (s := { s with events := es, drawn := n }) he
  | tickQuiet hf => exact .tickQuiet (s := { s with events := es, drawn := n }) hf
  | tickFire hf => exact .tickFire (s := { s with events := es, drawn := n }) hf
  | bootLast hq hb => exact .bootLast (s := { s with events := es, drawn := n }) hq hb
  | bootCycle hq hb => exact .bootCycle (s := { s with events := es, drawn := n }) hq hb
  | apply k hq hp => exact .apply (s := { s with events := es, drawn := n }) k hq hp
  | holdLast hq hp => exact .holdLast (s := { s with events := es, drawn := n }) hq hp
  | holdNext hq hp => exact .holdNext (s := { s with events := es, drawn := n }) hq hp
  | neutral hq => exact .neutral (s := { s with events := es, drawn := n }) hq
  | wait hq => exact .wait (s := { s with events := es, drawn := n }) hq
  | check hq => exact .check (s := { s with events := es, drawn := n }) hq
  | clear hq => exact .clear (s := { s with events := es, drawn := n }) hq
  | sleep hq => exact .sleep (s := { s with events := es, drawn := n }) hq

/-- Every event answers a next state, but for a STEP that meets an index without a table entry. -/
theorem runEvent_answers (e : Event) (s : State) :
    (∃ t, Does s e t) ∨
    (e = .step ∧ (s.seq = .S_APPLY ∨ s.seq = .S_HOLD) ∧ ¬ s.phase ≤ 5#3 ∧
      runEvent e s = .fault .phaseIndexOutOfRange) := by
  cases e with
  | rst => exact .inl ⟨_, .reset rfl⟩
  | rstTick => exact .inl ⟨_, .reset rfl⟩
  | tick =>
    cases hf : s.fires with
    | false => exact .inl ⟨_, .tickQuiet hf⟩
    | true => exact .inl ⟨_, .tickFire hf⟩
  | step =>
    cases hq : s.seq with
    | S_BOOT =>
      by_cases hb : s.boot_left = 0
      · exact .inl ⟨_, .bootLast hq hb⟩
      · exact .inl ⟨_, .bootCycle hq hb⟩
    | S_APPLY =>
      by_cases hp : s.phase ≤ 5#3
      · obtain ⟨k, hk⟩ := phase_index hp
        exact .inl ⟨_, .apply k hq hk⟩
      · exact .inr ⟨rfl, .inl rfl, hp, runEvent_step_out_of_range (.inl hq) hp⟩
    | S_HOLD =>
      by_cases hp : s.phase ≤ 5#3
      · by_cases h5 : s.phase = 5#3
        · exact .inl ⟨_, .holdLast hq h5⟩
        · exact .inl ⟨_, .holdNext hq (BitVec.lt_of_le_ne hp h5)⟩
      · exact .inr ⟨rfl, .inr rfl, hp, runEvent_step_out_of_range (.inr hq) hp⟩
    | S_NEUTRAL => exact .inl ⟨_, .neutral hq⟩
    | S_SLEEP => exact .inl ⟨_, .wait hq⟩
    | S_CHECK => exact .inl ⟨_, .check hq⟩
    | S_CLEAR => exact .inl ⟨_, .clear hq⟩
    | S_DOZE => exact .inl ⟨_, .sleep hq⟩

/-- The same said of outcomes: an event answers alike whatever is scheduled. -/
theorem runEvent_withSchedule (e : Event) (s : State) (es : List Event) (n : Nat) :
    runEvent e { s with events := es, drawn := n } =
      andThen (runEvent e s) fun t => .next { t with events := es, drawn := n } := by
  rcases runEvent_answers e s with ⟨t, ht⟩ | ⟨rfl, hq, hp, hf⟩
  · rw [runEvent_of_does ht, andThen_next]
    exact runEvent_of_does (ht.withSchedule es n)
  · rw [hf, andThen_fault]
    exact runEvent_step_out_of_range hq hp

/-- A step is its next event, taken from the schedule and performed. -/
theorem step_eq (s : State) : step s = runEvent s.nextEvent s.takeEvent := rfl

end Sys2Proof.Machine
end

