-- ==== Sys2Proof/Laws/PerInstr.lean ====
section
/-! SUPPORT. Laws of every operation as syntax, one lemma per constructor of Instr (LAWS.json). -/

namespace Sys2Proof.Laws.OwnRow

/-- The row of the opcode map overlaps with no other operation's (30_encoding R87: "The rows do not overlap"). -/
def Statement (i : Instr) : Prop :=
  ∀ (j : Instr) (sel : Selector), sel &&& i.mask = i.pattern → sel &&& j.mask = j.pattern → j = i

/-- Two rows that one selector matches agree on the bits both look at. -/
theorem agree_on_common_bits {i j : Instr} {sel : Selector} (hi : sel &&& i.mask = i.pattern)
    (hj : sel &&& j.mask = j.pattern) : i.pattern &&& j.mask = j.pattern &&& i.mask := by
  rw [← hi, ← hj, BitVec.and_assoc, BitVec.and_assoc, BitVec.and_comm i.mask]

/-- No other row agrees with the row of `i` on the bits both look at: enough for `Statement i`. -/
theorem of_disagree {i : Instr} (h : ∀ j : Instr, i.pattern &&& j.mask = j.pattern &&& i.mask → j = i) : Statement i :=
  fun j _ hi hj => h j (agree_on_common_bits hi hj)

theorem reset : Statement .reset := of_disagree (by intro j; cases j <;> decide)
theorem tick : Statement .tick := of_disagree (by intro j; cases j <;> decide)
theorem bootnext : Statement .bootnext := of_disagree (by intro j; cases j <;> decide)
theorem ph0 : Statement .ph0 := of_disagree (by intro j; cases j <;> decide)
theorem ph1 : Statement .ph1 := of_disagree (by intro j; cases j <;> decide)
theorem ph2 : Statement .ph2 := of_disagree (by intro j; cases j <;> decide)
theorem ph3 : Statement .ph3 := of_disagree (by intro j; cases j <;> decide)
theorem ph4 : Statement .ph4 := of_disagree (by intro j; cases j <;> decide)
theorem ph5 : Statement .ph5 := of_disagree (by intro j; cases j <;> decide)
theorem holdend : Statement .holdend := of_disagree (by intro j; cases j <;> decide)
theorem neutral : Statement .neutral := of_disagree (by intro j; cases j <;> decide)
theorem wait : Statement .wait := of_disagree (by intro j; cases j <;> decide)
theorem check : Statement .check := of_disagree (by intro j; cases j <;> decide)
theorem clear : Statement .clear := of_disagree (by intro j; cases j <;> decide)
theorem sleep : Statement .sleep := of_disagree (by intro j; cases j <;> decide)

end Sys2Proof.Laws.OwnRow
end

