-- ==== Sys2Proof/Laws/Run.lean ====
section
/-! SUPPORT. Taking the next event, and runs of event traces: the small lemmas of `takeEvent`, `runTrace` and
`runSchedule`. -/

namespace Sys2Proof.Machine

/-- Taking an event touches the schedule only. -/
theorem State.takeEvent_eq (s : State) :
    s.takeEvent = { s with events := s.takeEvent.events, drawn := s.takeEvent.drawn } := by
  unfold State.takeEvent
  split <;> rfl

@[simp] theorem State.takeEvent_device (s : State) : s.takeEvent.device = s.device := by rw [State.takeEvent_eq]
@[simp] theorem State.takeEvent_acc (s : State) : s.takeEvent.acc = s.acc := by rw [State.takeEvent_eq]
@[simp] theorem State.takeEvent_pulse_req (s : State) : s.takeEvent.pulse_req = s.pulse_req := by
  rw [State.takeEvent_eq]
@[simp] theorem State.takeEvent_seq (s : State) : s.takeEvent.seq = s.seq := by rw [State.takeEvent_eq]
@[simp] theorem State.takeEvent_phase (s : State) : s.takeEvent.phase = s.phase := by rw [State.takeEvent_eq]
@[simp] theorem State.takeEvent_boot_left (s : State) : s.takeEvent.boot_left = s.boot_left := by
  rw [State.takeEvent_eq]
@[simp] theorem State.takeEvent_booting (s : State) : s.takeEvent.booting = s.booting := by rw [State.takeEvent_eq]
@[simp] theorem State.takeEvent_pins (s : State) : s.takeEvent.pins = s.pins := by rw [State.takeEvent_eq]
@[simp] theorem State.takeEvent_obs (s : State) : s.takeEvent.obs = s.obs := by rw [State.takeEvent_eq]

@[simp] theorem runTrace_nil (s : State) : runTrace [] s = .next s := rfl

@[simp] theorem runTrace_cons (e : Event) (es : List Event) (s : State) :
    runTrace (e :: es) s = andThen (runEvent e s) (runTrace es) := rfl

/-- A trace in two parts is run part by part. -/
theorem runTrace_append (as bs : List Event) (s : State) :
    runTrace (as ++ bs) s = andThen (runTrace as s) (runTrace bs) := by
  induction as generalizing s with
  | nil => rfl
  | cons e es ih =>
    rw [List.cons_append, runTrace_cons, runTrace_cons]
    cases runEvent e s with
    | next t => exact ih t
    | fault f => rfl
    | refused r => rfl

@[simp] theorem noFault_next (s : State) : NoFault (.next s) := fun _ h => nomatch h

@[simp] theorem noFault_refused (r : Refusal) : NoFault (.refused r) := fun _ h => nomatch h

@[simp] theorem not_noFault_fault (f : Fault) : ¬ NoFault (.fault f) := fun h => h f rfl

/-- Only the events after the first one count. -/
theorem noRst_cons (e : Event) (es : List Event) : NoRst (e :: es) ↔ RstFree es := Iff.rfl

theorem RstFree.noRst {tr : List Event} (h : RstFree tr) : NoRst tr := fun e he => h e (List.mem_of_mem_tail he)

/-- A trace that gives a fault has none taken back by what follows it (60_exceptions R171). -/
theorem noFault_of_append {as bs : List Event} {s : State} (h : NoFault (runTrace (as ++ bs) s)) :
    NoFault (runTrace as s) := by
  intro f hf
  rw [runTrace_append, hf] at h
  exact h f rfl

@[simp] theorem runSchedule_zero (sched : Nat → Event) (s : State) : runSchedule sched s 0 = .next s := rfl

@[simp] theorem runSchedule_succ (sched : Nat → Event) (s : State) (n : Nat) :
    runSchedule sched s (n + 1) = andThen (runSchedule sched s n) (runEvent (sched n)) := rfl

end Sys2Proof.Machine
end

