-- ==== Sys2Proof/Tests/Slice0.lean ====
section
/-! SUPPORT. Tests and witnesses. Expected results are the spec's own: vector V<n> is 95_test_vectors V<n>, worked out
there from the rules. `docDevice` is that file's CFG_DOC with the example table `PT_EX`, which is test data only. -/

namespace Sys2Proof.Tests
open Sys2Proof Sys2Proof.Machine

/-! ### Well-formedness: one ill-formed configuration for each check of 00_scope R7 -/

/-- CFG_DOC of 95_test_vectors, `STARTUP_CYCLES` = 180. -/
def docConfig : Config where
  W := 8
  T := 32
  I := 100
  PT := #v[0b001#3, 0b011#3, 0b010#3, 0b110#3, 0b100#3, 0b101#3]
  NEUTRAL := 0b000#3
  STARTUP_CYCLES := 180
  BW := 8
  HOLD_MIN := 5

theorem test_wf_doc : docConfig.WF := by decide
theorem test_illformed_no_tick : ¬ { docConfig with T := 0 }.WF := by decide
theorem test_illformed_tick_over_interval : ¬ { docConfig with T := 101 }.WF := by decide
/-- CFG_BAD, vector V17. -/
theorem test_illformed_sum_too_wide : ¬ { docConfig with T := 100, I := 250 }.WF := by decide
theorem test_illformed_startup_too_wide : ¬ { docConfig with STARTUP_CYCLES := 256 }.WF := by decide
/-- CFG_EDGE: `I + T = 2^W` is still well-formed. -/
theorem test_wf_edge : { docConfig with T := 56, I := 200 }.WF := by decide

/-! ### Decoding, from the selectors of 30_encoding R87 and vector V64 written bit by bit -/

theorem test_decode_bootnext : decode 0b00000101#8 = .ok .bootnext := by rfl
theorem test_decode_ph0 : decode 0b00001000#8 = .ok .ph0 := by rfl
theorem test_decode_ph1 : decode 0b00001001#8 = .ok .ph1 := by rfl
theorem test_decode_ph2 : decode 0b00001010#8 = .ok .ph2 := by rfl
theorem test_decode_ph3 : decode 0b00001011#8 = .ok .ph3 := by rfl
theorem test_decode_ph4 : decode 0b00001100#8 = .ok .ph4 := by rfl
theorem test_decode_ph5 : decode 0b00001101#8 = .ok .ph5 := by rfl
theorem test_decode_reserved_apply : decode 0b00001110#8 = .error .phaseIndexOutOfRange := by rfl
theorem test_decode_holdend : decode 0b00010101#8 = .ok .holdend := by rfl
theorem test_decode_reserved_hold : decode 0b00010110#8 = .error .phaseIndexOutOfRange := by rfl
theorem test_decode_neutral : decode 0b00011101#8 = .ok .neutral := by rfl
theorem test_decode_wait : decode 0b00100000#8 = .ok .wait := by rfl
theorem test_decode_check : decode 0b00101000#8 = .ok .check := by rfl
theorem test_decode_clear : decode 0b00110000#8 = .ok .clear := by rfl
theorem test_decode_sleep : decode 0b00111000#8 = .ok .sleep := by rfl
theorem test_decode_tick : decode 0b01111000#8 = .ok .tick := by rfl
theorem test_decode_reset : decode 0b10010011#8 = .ok .reset := by rfl
theorem test_decode_reset_with_tick : decode 0b11111111#8 = .ok .reset := by rfl
theorem test_table_word : decodeTableWord 8 0x93 = some .reset := by decide
theorem test_table_word_reserved : decodeTableWord 8 0x17 = none := by decide

/-! ### One event each -/

/-- The device of the vectors. -/
def docDevice : WfConfig := ⟨docConfig, test_wf_doc⟩

/-- A state by the spec's tuple `(acc, pulse_req, seq, phase, boot_left, booting, pins)`. -/
def st (acc : Nat) (req : Bool) (q : Seq) (p : Code) (left : Nat) (boot : Bool) (pins : Code) : State :=
  { State.initial docDevice with
    acc := acc, pulse_req := req, seq := q, phase := p, boot_left := left, booting := boot, pins := pins }

/-- The spec's tuple. -/
structure Seen where
  acc : Nat
  pulse_req : Bool
  seq : Seq
  phase : Code
  boot_left : Nat
  booting : Bool
  pins : Code
deriving DecidableEq, Repr

/-- The spec's tuple of an outcome, where it is a next state. -/
def tuple : Result → Option Seen
  | .next s => some ⟨s.acc, s.pulse_req, s.seq, s.phase, s.boot_left, s.booting, s.pins⟩
  | .fault _ => none
  | .refused _ => none

/-- V19. -/
theorem test_tick_fires_and_wakes :
    tuple (runEvent .tick (st 96 false .S_SLEEP 0 0 false 0)) = some ⟨28, true, .S_CHECK, 0, 0, false, 0⟩ := by decide
/-- V23. -/
theorem test_tick_in_doze_wakes_nothing :
    tuple (runEvent .tick (st 96 false .S_DOZE 0 0 false 0)) = some ⟨28, true, .S_DOZE, 0, 0, false, 0⟩ := by decide
/-- V26 (`a1 = I`: equality fires, remainder 0). -/
theorem test_tick_equality_fires :
    tuple (runEvent .tick (st 68 false .S_BOOT 0 7 true 0)) = some ⟨0, true, .S_BOOT, 0, 7, true, 0⟩ := by decide
/-- V30. -/
theorem test_bootnext_first :
    tuple (runEvent .step (st 0 false .S_BOOT 0 180 true 0)) = some ⟨0, false, .S_APPLY, 0, 179, true, 0⟩ := by decide
/-- V33. -/
theorem test_bootnext_none_left :
    tuple (runEvent .step (st 28 true .S_BOOT 0 0 true 0)) = some ⟨28, true, .S_DOZE, 0, 0, false, 0⟩ := by decide
/-- V34. -/
theorem test_ph0 :
    tuple (runEvent .step (st 0 false .S_APPLY 0 179 true 0)) = some ⟨0, false, .S_HOLD, 0, 179, true, 1⟩ := by decide
/-- V35. -/
theorem test_ph1 :
    tuple (runEvent .step (st 0 false .S_APPLY 1 179 true 1)) = some ⟨0, false, .S_HOLD, 1, 179, true, 3⟩ := by decide
/-- V36. -/
theorem test_ph2 :
    tuple (runEvent .step (st 0 false .S_APPLY 2 0 false 3)) = some ⟨0, false, .S_HOLD, 2, 0, false, 2⟩ := by decide
/-- V37. -/
theorem test_ph3 :
    tuple (runEvent .step (st 5 true .S_APPLY 3 0 false 2)) = some ⟨5, true, .S_HOLD, 3, 0, false, 6⟩ := by decide
/-- V38. -/
theorem test_ph4 :
    tuple (runEvent .step (st 0 false .S_APPLY 4 0 false 6)) = some ⟨0, false, .S_HOLD, 4, 0, false, 4⟩ := by decide
/-- V39. -/
theorem test_ph5 :
    tuple (runEvent .step (st 0 false .S_APPLY 5 0 false 4)) = some ⟨0, false, .S_HOLD, 5, 0, false, 5⟩ := by decide
/-- V44. -/
theorem test_holdend_next :
    tuple (runEvent .step (st 0 false .S_HOLD 4 0 false 4)) = some ⟨0, false, .S_APPLY, 5, 0, false, 4⟩ := by decide
/-- V45. -/
theorem test_holdend_last :
    tuple (runEvent .step (st 0 false .S_HOLD 5 0 false 5)) = some ⟨0, false, .S_NEUTRAL, 5, 0, false, 5⟩ := by decide
/-- V47. -/
theorem test_neutral_startup :
    tuple (runEvent .step (st 0 false .S_NEUTRAL 5 0 true 5)) = some ⟨0, false, .S_BOOT, 0, 0, true, 0⟩ := by decide
/-- V49. -/
theorem test_neutral_requested :
    tuple (runEvent .step (st 4 true .S_NEUTRAL 5 0 false 5)) = some ⟨4, true, .S_DOZE, 0, 0, false, 0⟩ := by decide
/-- V50. -/
theorem test_check_clear_flag :
    tuple (runEvent .step (st 32 false .S_CHECK 0 0 false 0)) = some ⟨32, false, .S_DOZE, 0, 0, false, 0⟩ := by decide
/-- V51. -/
theorem test_check_set_flag :
    tuple (runEvent .step (st 28 true .S_CHECK 0 0 false 0)) = some ⟨28, true, .S_CLEAR, 0, 0, false, 0⟩ := by decide
/-- V52. -/
theorem test_clear :
    tuple (runEvent .step (st 28 true .S_CLEAR 0 0 false 0)) = some ⟨28, false, .S_APPLY, 0, 0, false, 0⟩ := by decide
/-- V54. -/
theorem test_sleep :
    tuple (runEvent .step (st 0 true .S_DOZE 0 0 false 0)) = some ⟨0, true, .S_SLEEP, 0, 0, false, 0⟩ := by decide
/-- V55. -/
theorem test_wait :
    tuple (runEvent .step (st 32 false .S_SLEEP 0 0 false 0)) = some ⟨32, false, .S_SLEEP, 0, 0, false, 0⟩ := by decide
/-- V56. -/
theorem test_reset_mid_cycle :
    tuple (runEvent .rst (st 96 true .S_HOLD 3 0 false 6)) = some ⟨0, false, .S_BOOT, 0, 180, true, 0⟩ := by decide
/-- V60. -/
theorem test_reset_discards_tick :
    tuple (runEvent .rstTick (st 28 false .S_SLEEP 0 0 false 0)) = some ⟨0, false, .S_BOOT, 0, 180, true, 0⟩ := by decide

/-! ### The step from reset -/

/-- The word PH3 shown right after reset is the next step's operation. -/
theorem test_fetch_word_runs :
    (State.reset.withFetchWord 8 0x0B).events = [.step] ∧
    step (State.reset.withFetchWord 8 0x0B) =
      exec .ph3 { State.reset.withFetchWord 8 0x0B with events := [] } := ⟨rfl, rfl⟩

/-- A TICK shown right after reset runs whatever the open tick period is. -/
theorem test_fetch_tick_runs :
    step (State.reset.withFetchWord 8 0x40) =
      exec .tick { State.reset.withFetchWord 8 0x40 with events := [] } := rfl

/-- The clocked realisation, 95_test_vectors P7 edge 6 (CLEAR and a firing TICK on one edge: the set wins), with
`T` = 32: `acc` = 68 fires. -/
theorem test_edge_set_dominates_clear :
    (match edge ⟨false, true⟩ ⟨st 68 true .S_CLEAR 0 0 false 0, 0, ⟨1, 3⟩⟩ with
      | .next c => c.block.pulse_req && c.block.seq == .S_APPLY
      | .fault _ => false
      | .refused _ => false) = true := by decide

/-! ### Witnesses: for every statement with hypotheses, a state and operands that meet them, clause by clause -/

/-- A sleeping sequencer about to be told to STEP. -/
def scripted : State := { st 0 false .S_SLEEP 0 0 false 0 with events := [.step] }

theorem witness_StepRunsDecodedOperation_scripted :
    scripted.events = .step :: [] ∧ decode (selector .step scripted.seq scripted.phase) = .ok .wait := ⟨rfl, rfl⟩

theorem witness_StepRunsDecodedOperation_free :
    ∃ i, (st 0 false .S_SLEEP 0 0 false 0).events = [] ∧
      decode (selector (Config.freeEvent (st 0 false .S_SLEEP 0 0 false 0).drawn) .S_SLEEP 0) = .ok i := by
  cases h : Config.freeEvent (st 0 false .S_SLEEP 0 0 false 0).drawn
  · exact ⟨.wait, rfl, rfl⟩
  · exact ⟨.tick, rfl, rfl⟩
  · exact ⟨.reset, rfl, rfl⟩
  · exact ⟨.reset, rfl, rfl⟩

theorem witness_DecodeEncodeAgree :
    phaseField 0b00000101#8 ≤ 5#3 ∧ decode 0b00010101#8 = .ok .holdend := by decide

theorem witness_ResetOperation : (0x80#8).extractLsb' 7 1 = 1#1 := by decide

theorem witness_format_S_selectors :
    (0x00#8).extractLsb' 3 5 = 0b00000#5 ∧ (0x18#8).extractLsb' 3 5 = 0b00011#5 ∧
    (0x20#8).extractLsb' 3 5 = 0b00100#5 ∧ (0x28#8).extractLsb' 3 5 = 0b00101#5 ∧
    (0x30#8).extractLsb' 3 5 = 0b00110#5 ∧ (0x38#8).extractLsb' 3 5 = 0b00111#5 ∧
    (0x40#8).extractLsb' 6 2 = 0b01#2 := by decide

theorem witness_BootnextOperation_none_left : (st 0 false .S_BOOT 0 0 true 0).boot_left = 0 := rfl

theorem witness_BootnextOperation_one_left : (st 0 false .S_BOOT 0 1 true 0).boot_left ≠ 0 := by decide

theorem witness_PhaseApplicationOperations :
    [Instr.ph0, .ph1, .ph2, .ph3, .ph4, .ph5][(5 : Fin 6).val]? = some .ph5 := rfl

theorem witness_HoldendOperation :
    (st 0 false .S_HOLD 5 0 false 5).phase = 5#3 ∧ (st 0 false .S_HOLD 4 0 false 4).phase < 5#3 ∧
    5#3 < (st 0 false .S_HOLD 6 0 false 4).phase := by decide

theorem witness_WaitOperation : (st 0 false .S_SLEEP 0 0 false 0).seq = .S_SLEEP := rfl

theorem witness_CheckOperation :
    ∃ t, runEvent .tick (st 0 false .S_SLEEP 0 0 false 0) = .next t ∧ t.seq = .S_CHECK := ⟨_, rfl, rfl⟩

theorem witness_SleepOperation :
    (st 0 false .S_DOZE 0 0 false 0).seq = .S_DOZE ∧
    (st 0 false .S_CHECK 0 0 false 0).Inv ∧ (st 0 false .S_CHECK 0 0 false 0).seq ≠ .S_DOZE ∧
    ∃ t, runEvent .step (st 0 false .S_CHECK 0 0 false 0) = .next t ∧ t.seq = .S_DOZE :=
  ⟨rfl, by decide, by decide, _, rfl, rfl⟩

theorem witness_ControlTransferTable :
    Event.rst.isRst = true ∧ Event.rstTick.isRst = true ∧
    0 < (st 0 false .S_BOOT 0 1 true 0).boot_left ∧ (st 0 false .S_BOOT 0 0 true 0).boot_left = 0 ∧
    (st 0 false .S_APPLY 5 0 true 4).phase = BitVec.ofNat 3 (5 : Fin 6) ∧
    (st 0 false .S_HOLD 4 0 true 4).phase < 5#3 ∧ (st 0 false .S_HOLD 5 0 true 5).phase = 5#3 ∧
    (st 0 false .S_NEUTRAL 5 0 true 5).booting = true ∧ (st 0 false .S_NEUTRAL 5 0 false 5).booting = false ∧
    (st 0 true .S_CHECK 0 0 false 0).pulse_req = true ∧ (st 0 false .S_CHECK 0 0 false 0).pulse_req = false ∧
    (st 0 true .S_CLEAR 0 0 false 0).seq = .S_CLEAR ∧ (st 0 true .S_DOZE 0 0 false 0).seq = .S_DOZE ∧
    (st 0 true .S_SLEEP 0 0 false 0).seq = .S_SLEEP ∧ (st 0 true .S_DOZE 0 0 false 0).seq ≠ .S_SLEEP := by decide

theorem witness_LaunchRefusesIllFormed : docConfig.WF ∧ ¬ { docConfig with T := 101 }.WF := by decide

theorem witness_FaultsExactly :
    runTrace [.tick, .step] (st 0 false .S_HOLD 6 0 false 0) = .fault .phaseIndexOutOfRange ∧
    runEvent .step (st 0 false .S_APPLY 7 0 false 0) = .fault .phaseIndexOutOfRange := ⟨rfl, rfl⟩

theorem witness_StepNeverStops : (st 99 true .S_HOLD 5 180 true 5).Inv ∧ Event.tick ≠ .step := by decide

/-- The state after the TICK scripted here. -/
def ticking : State := { st 99 false .S_HOLD 5 180 true 5 with events := [.tick] }

theorem witness_step_premises :
    ticking.Inv ∧ ticking.SelectorInv ∧ ticking.PinsInv ∧ ticking.FitsWidths ∧ ∃ t, step ticking = .next t :=
  ⟨by decide, by decide, by decide, by decide, _, rfl⟩

theorem witness_ReachableStatesHaveInv : (st 0 false .S_APPLY 0 179 true 0).Reachable :=
  ⟨State.initial docDevice, [.step], rfl, by decide, rfl⟩

theorem witness_event_premises :
    ∃ t, runEvent .step (st 7 true .S_APPLY 5 3 true 4) = .next t ∧ Event.step.isRst = false := ⟨_, rfl, rfl⟩

theorem witness_ReadOwnership :
    (st 7 true .S_APPLY 5 3 true 4).device = (st 7 false .S_APPLY 2 0 false 0).device ∧
    ∃ t, runEvent .tick (st 7 true .S_APPLY 5 3 true 4) = .next t := ⟨rfl, _, rfl⟩

theorem witness_TickNeverWraps :
    (st 99 false .S_HOLD 0 0 false 0).acc < docConfig.I ∧
    (st 67 false .S_HOLD 0 0 false 0).acc + docConfig.T < docConfig.I ∧
    docConfig.I ≤ (st 68 false .S_HOLD 0 0 false 0).acc + docConfig.T ∧
    { docConfig with W := 32, I := 480000000, T := 480000000 }.WF := by decide

theorem witness_AccumulatorClosedForm :
    (st 99 false .S_HOLD 0 0 false 0).acc < docConfig.I ∧ RstFree [.tick, .step, .tick] ∧
    ∃ t, runTrace [.tick, .step, .tick] (st 99 false .S_HOLD 0 0 false 0) = .next t := ⟨by decide, by decide, _, rfl⟩

/-- From a remainder of 28 the second TICK after the first two fires (95_test_vectors V1, ticks 5 to 7). -/
theorem witness_FireSpacing :
    (st 28 false .S_HOLD 0 0 false 0).acc < docConfig.T ∧ RstFree [.tick, .step, .tick] ∧
    ∃ t u, runTrace [.tick, .step, .tick] (st 28 false .S_HOLD 0 0 false 0) = .next t ∧ t.obs.fires = 0 ∧
      runEvent .tick t = .next u ∧ u.obs.fires = 1 := ⟨by decide, by decide, _, _, rfl, rfl, rfl, rfl⟩

theorem witness_FireSpacing_from_reset :
    ∃ t u, runTrace [.tick, .step, .tick, .tick] (State.initial docDevice) = .next t ∧ runEvent .tick t = .next u ∧
      u.obs.fires = t.obs.fires + 1 := ⟨_, _, rfl, rfl, rfl⟩

theorem witness_FireSpacing_every_tick :
    { docConfig with T := 100 }.WF ∧ { docConfig with T := 100 }.T = { docConfig with T := 100 }.I := by decide

theorem witness_FireOnSetFlag :
    ∃ t, runEvent .tick { st 92 true .S_CLEAR 0 0 false 0 with pulse_req := false } = .next t ∧ t.obs.fires = 0 + 1 :=
  ⟨_, rfl, rfl⟩

theorem witness_FullCycle :
    (st 0 false .S_APPLY 0 2 true 0).seq = .S_APPLY ∧ (st 0 false .S_APPLY 0 2 true 0).phase = 0#3 ∧
    RstFree (List.replicate 6 Event.step ++ [Event.tick, .tick] ++ List.replicate 7 Event.step) ∧
    (List.replicate 6 Event.step ++ [Event.tick, .tick] ++ List.replicate 7 Event.step).count .step = 13 := by decide

theorem witness_StartupCount :
    ([.tick, .step, .step] : List Event).count .step = 14 * 0 + 2 ∧
    ([.tick, .step, .step] : List Event).getLast? = some .step ∧ NoRst [.tick, .step, .step] ∧
    { docConfig with STARTUP_CYCLES := 0 }.WF ∧
    ([.tick, .step] : List Event).count .step < 14 * 0 + 2 := by decide

theorem witness_IdleIsIdempotent :
    (st 67 false .S_SLEEP 0 0 false 0).seq = .S_SLEEP ∧ (st 67 false .S_SLEEP 0 0 false 0).pulse_req = false ∧
    (67 + docConfig.T) % 2 ^ docConfig.W < docConfig.I := by decide

theorem witness_DeferredService :
    (st 68 false .S_DOZE 0 0 false 0).seq ≠ .S_SLEEP ∧ docConfig.I ≤ (68 + docConfig.T) % 2 ^ docConfig.W ∧
    (st 0 true .S_SLEEP 0 0 false 0).pulse_req = true ∧ (st 68 false .S_SLEEP 0 0 false 0).seq = .S_SLEEP := by decide

theorem witness_CoalescedInReadClearWindow :
    (st 68 true .S_CHECK 0 0 false 0).seq = .S_CHECK ∧ (st 68 true .S_CHECK 0 0 false 0).pulse_req = true ∧
    docConfig.I ≤ (68 + docConfig.T) % 2 ^ docConfig.W := by decide

theorem witness_TickCommutesWithCycleSteps : (st 68 true .S_NEUTRAL 5 0 false 5).seq = .S_NEUTRAL := rfl

theorem witness_Quiescence : (st 0 true .S_CHECK 0 0 false 0).Inv := by decide

/-- A fair schedule: TICK and STEP in turn. -/
def alternating (n : Nat) : Event := if n % 2 = 0 then .tick else .step

theorem alternating_fair (s : State) : Fair alternating s where
  noRst n := by
    unfold alternating
    split <;> rfl
  steps n := ⟨2 * n + 1, by omega, .inl (if_neg (by omega))⟩
  ticks n := ⟨2 * n, by omega, if_pos (by omega)⟩

theorem witness_EveryRequestIsServed :
    (st 0 true .S_SLEEP 0 0 false 0).Inv ∧ Fair alternating (st 0 true .S_SLEEP 0 0 false 0) ∧
    ∃ t, runSchedule alternating (st 0 true .S_SLEEP 0 0 false 0) 0 = .next t ∧ t.pulse_req = true :=
  ⟨by decide, alternating_fair _, _, rfl, rfl⟩

/-- A clocked realisation with `HOLD_CYCLES` = 1 and `t_clk` = 3, so that `HOLD_MIN` = 5 is met. -/
def clocked (s : State) (n : Nat) : ClockedState := ⟨s, n, ⟨1, 3⟩⟩

theorem witness_ClockEdge :
    (∃ d, edge ⟨false, true⟩ (clocked (st 68 false .S_HOLD 5 0 false 5) 1) = .next d) ∧
    (∃ d, edge ⟨false, true⟩ (clocked (st 68 false .S_HOLD 5 0 false 5) 0) = .next d) ∧
    (∃ d, edge ⟨false, true⟩ (clocked (st 68 false .S_SLEEP 0 0 false 0) 0) = .next d) ∧
    (∃ d, edge ⟨false, true⟩ (clocked (st 68 false .S_DOZE 0 0 false 0) 0) = .next d) :=
  ⟨⟨_, rfl⟩, ⟨_, rfl⟩, ⟨_, rfl⟩, ⟨_, rfl⟩⟩

theorem witness_HoldLastsHoldCycles :
    (clocked (st 68 false .S_APPLY 5 0 false 4) 0).block.phase = BitVec.ofNat 3 (5 : Fin 6) ∧
    (clocked (st 68 false .S_APPLY 5 0 false 4) 0).hold.meetsHoldMin docConfig ∧ 1 * 3 < docConfig.HOLD_MIN ∧
    (∃ d, runEdges [⟨false, true⟩, ⟨false, true⟩] (clocked (st 68 false .S_APPLY 5 0 false 4) 0) = .next d) ∧
    (∃ d, runEdges [⟨false, true⟩, ⟨false, true⟩, ⟨false, false⟩] (clocked (st 68 false .S_APPLY 5 0 false 4) 0) =
      .next d) ∧
    (∃ d, edge ⟨true, true⟩ (clocked (st 68 false .S_APPLY 5 0 false 4) 0) = .next d) :=
  ⟨rfl, by decide, by decide, ⟨_, rfl⟩, ⟨_, rfl⟩, ⟨_, rfl⟩⟩

theorem witness_ClockedRefinesEvents :
    (∃ d, runEdges [⟨false, true⟩, ⟨true, true⟩] (clocked (st 68 false .S_CHECK 0 0 false 0) 0) = .next d) ∧
    (∃ d, edge ⟨false, true⟩ (clocked (st 68 false .S_CHECK 0 0 false 0) 0) = .next d) := ⟨⟨_, rfl⟩, ⟨_, rfl⟩⟩

theorem witness_SelectorFields :
    decode (selector .step (st 0 false .S_HOLD 5 0 true 5).seq (st 0 false .S_HOLD 5 0 true 5).phase) = .ok .holdend :=
  rfl

theorem witness_DispatchByState : (5#3 : Code) ≤ 5#3 ∧ ¬ (6#3 : Code) ≤ 5#3 := by decide

theorem witness_NeutralOperation :
    ∃ t, runEvent .step (st 0 false .S_HOLD 5 0 true 5) = .next t ∧ t.seq = .S_NEUTRAL := ⟨_, rfl, rfl⟩

theorem witness_FireOnSetFlag_quiet :
    ∃ t, runEvent .tick { st 67 true .S_CLEAR 0 0 false 0 with pulse_req := false } = .next t ∧ t.obs.fires = 0 :=
  ⟨_, rfl, rfl⟩

/-- A trace may open with RST; a later one is another launch (70_reset_and_hazards R223). -/
theorem test_noRst_allows_the_first_only : NoRst [.rst, .tick, .step] ∧ ¬ NoRst [.tick, .rst] := by decide

theorem test_noFault : NoFault (runTrace [.step] (State.initial docDevice)) ∧
    ¬ NoFault (runTrace [.tick, .step] (st 0 false .S_HOLD 6 0 false 0)) :=
  ⟨noFault_next _, not_noFault_fault .phaseIndexOutOfRange⟩

theorem witness_LaunchPremises :
    (st 0 false .S_APPLY 0 179 true 0).Reachable ∧ Event.rstTick.isRst = true ∧ NoRst [.rstTick, .tick, .step] :=
  ⟨witness_ReachableStatesHaveInv, rfl, by decide⟩

theorem witness_PinWriteTrace :
    NoRst [.rst, .step, .step] ∧ ∃ t, runTrace [.rst, .step, .step] (State.initial docDevice) = .next t ∧
      t.obs.pin_trace[0]? = some docConfig.PT[0] := ⟨by decide, _, rfl, rfl⟩

theorem witness_Quiescence_woken :
    ∃ t, runEvent .tick (st 0 true .S_SLEEP 0 0 false 0) = .next t ∧ t.seq = .S_CHECK := ⟨_, rfl, rfl⟩

theorem witness_ClockEdge_check :
    ∃ d, edge ⟨false, true⟩ (clocked (st 68 false .S_CHECK 0 0 false 0) 0) = .next d ∧ d.block.seq = .S_DOZE :=
  ⟨_, rfl, rfl⟩

end Sys2Proof.Tests
end

section
/-! Proofs of the scope's obligations (00_scope R6, R7): what `launch` answers on a configuration, and the constants of
the device `State.reset` stands for. -/

namespace Sys2Proof.Machine

/-- The launch of a well-formed configuration (00_scope R7, 70_reset_and_hazards R204). -/
theorem launch_of_wf {c : Config} (h : c.WF) : launch c = .next (State.initial ⟨c, h⟩) := dif_pos h

/-- The launch of any other configuration (00_scope R7, 60_exceptions R171). -/
theorem launch_of_not_wf {c : Config} (h : ¬ c.WF) : launch c = .refused .configNotWellFormed := dif_neg h

/-- Settles O19: `Config.WF` is the four conditions of R7, and `launch` branches on it. -/
theorem launchRefusesIllFormed : Obligations.LaunchRefusesIllFormed :=
  fun _ => ⟨Iff.rfl, launch_of_wf, launch_of_not_wf⟩

/-- Settles O53: the device is `WfConfig.device`, which `State.reset` is defined on; its fields with a default in R6 do
not depend on the free values. -/
theorem resetDeviceHasTheDefaults : Obligations.ResetDeviceHasTheDefaults :=
  ⟨WfConfig.device, rfl, rfl, rfl, rfl, rfl, rfl⟩

end Sys2Proof.Machine
end

section
/-! Support for the proofs about the state (10_state): the fields a TICK leaves, its arithmetic, and how a property of
single events carries over to steps and traces. -/

namespace Sys2Proof.Machine

/-! ### The two parts of a TICK, field by field -/

section
variable (s : State)

@[simp] theorem State.wake_device : s.wake.device = s.device := by rw [State.wake_eq]
@[simp] theorem State.wake_cfg : s.wake.cfg = s.cfg := by rw [State.wake_eq]
@[simp] theorem State.wake_acc : s.wake.acc = s.acc := by rw [State.wake_eq]
@[simp] theorem State.wake_pulse_req : s.wake.pulse_req = s.pulse_req := by rw [State.wake_eq]
@[simp] theorem State.wake_seq : s.wake.seq = if s.seq = .S_SLEEP then .S_CHECK else s.seq := by rw [State.wake_eq]
@[simp] theorem State.wake_phase : s.wake.phase = s.phase := by rw [State.wake_eq]
@[simp] theorem State.wake_boot_left : s.wake.boot_left = s.boot_left := by rw [State.wake_eq]
@[simp] theorem State.wake_booting : s.wake.booting = s.booting := by rw [State.wake_eq]
@[simp] theorem State.wake_pins : s.wake.pins = s.pins := by rw [State.wake_eq]
@[simp] theorem State.wake_obs : s.wake.obs = s.obs := by rw [State.wake_eq]

@[simp] theorem State.accumulate_device : s.accumulate.device = s.device := by rw [State.accumulate_eq]
@[simp] theorem State.accumulate_cfg : s.accumulate.cfg = s.cfg := by rw [State.accumulate_eq]
@[simp] theorem State.accumulate_pulse_req : s.accumulate.pulse_req = (s.pulse_req || s.fires) := by
  rw [State.accumulate_eq]
@[simp] theorem State.accumulate_seq : s.accumulate.seq = s.seq := by rw [State.accumulate_eq]
@[simp] theorem State.accumulate_phase : s.accumulate.phase = s.phase := by rw [State.accumulate_eq]
@[simp] theorem State.accumulate_boot_left : s.accumulate.boot_left = s.boot_left := by rw [State.accumulate_eq]
@[simp] theorem State.accumulate_booting : s.accumulate.booting = s.booting := by rw [State.accumulate_eq]
@[simp] theorem State.accumulate_pins : s.accumulate.pins = s.pins := by rw [State.accumulate_eq]

/-- The records a TICK leaves: itself, and whether it fired (70_reset_and_hazards R224). -/
@[simp] theorem State.accumulate_obs :
    s.accumulate.obs = { s.obs with ticks := s.obs.ticks + 1, fires := s.obs.fires + s.fires.toNat } := by
  cases hf : s.fires with
  | false => rw [State.accumulate_of_not_fires hf]; rfl
  | true => rw [State.accumulate_of_fires hf]; rfl

theorem State.accumulate_acc :
    s.accumulate.acc = if s.fires then (s.tickSum - s.cfg.I) % 2 ^ s.cfg.W else s.tickSum := by
  cases hf : s.fires with
  | false => rw [State.accumulate_of_not_fires hf]; rfl
  | true => rw [State.accumulate_of_fires hf]; rfl

/-- A TICK answers in every state: the accumulator's part, then the wake (40_rate_accumulator R110, R114). -/
theorem runEvent_tick_eq : runEvent .tick s = .next s.accumulate.wake := runEvent_tick s

end

/-- What a TICK does, read off its outcome. -/
theorem Does.eq_tick {s t : State} (h : Does s .tick t) : t = s.accumulate.wake :=
  Host.Outcome.next.inj ((runEvent_of_does h).symm.trans (runEvent_tick_eq s))

/-- The wake enters S_CHECK only: any other `seq` after it was there before (40_rate_accumulator R113). -/
theorem State.seq_of_wake {s : State} {q : Seq} (hq : q ≠ .S_CHECK) (h : s.wake.seq = q) : s.seq = q := by
  by_cases hs : s.seq = .S_SLEEP
  · rw [State.wake_of_sleep hs] at h
    exact absurd h.symm hq
  · rwa [State.wake_of_not_sleep hs] at h

/-! ### The arithmetic of a TICK -/

theorem State.fires_eq_true_iff (s : State) : s.fires = true ↔ s.cfg.I ≤ s.tickSum := decide_eq_true_iff

theorem State.tickSum_lt_width (s : State) : s.tickSum < 2 ^ s.cfg.W := Nat.mod_lt _ (Nat.two_pow_pos _)

/-- Both arms of a TICK write `acc` modulo `2^W` (40_rate_accumulator R111, R112). -/
theorem State.accumulate_acc_lt_width (s : State) : s.accumulate.acc < 2 ^ s.cfg.W := by
  rw [State.accumulate_acc]
  split
  · exact Nat.mod_lt _ (Nat.two_pow_pos _)
  · exact s.tickSum_lt_width

/-- The sum does not wrap from `acc < I`, as `I + T <= 2^W` (40_rate_accumulator R116). -/
theorem State.tickSum_of_acc_lt {s : State} (h : s.acc < s.cfg.I) : s.tickSum = s.acc + s.cfg.T := by
  obtain ⟨-, -, hsum, -⟩ := s.device.property
  exact Nat.mod_eq_of_lt (lt_of_lt_of_le (Nat.add_lt_add_right h _) hsum)

/-- The remainder a fire leaves is below `T` (40_rate_accumulator R116). -/
theorem State.accumulate_acc_lt_of_fires {s : State} (h : s.acc < s.cfg.I) (hf : s.fires = true) :
    s.accumulate.acc < s.cfg.T := by
  have hle := Nat.mod_le (s.tickSum - s.cfg.I) (2 ^ s.cfg.W)
  have hfire := s.fires_eq_true_iff.mp hf
  rw [State.accumulate_acc, if_pos hf]
  rw [State.tickSum_of_acc_lt h] at hle hfire ⊢
  omega

/-- One TICK keeps `acc < I` (10_state R31). -/
theorem State.accumulate_acc_lt_interval {s : State} (h : s.acc < s.cfg.I) : s.accumulate.acc < s.cfg.I := by
  obtain ⟨-, hT, -, -⟩ := s.device.property
  cases hf : s.fires with
  | true => exact lt_of_lt_of_le (State.accumulate_acc_lt_of_fires h hf) hT
  | false =>
    rw [State.accumulate_of_not_fires hf]
    exact Nat.lt_of_not_le (mt s.fires_eq_true_iff.mpr (by simp [hf]))

/-- The sum of a TICK is decided by the constants and `acc` (10_state R30). -/
theorem State.tickSum_congr {s s' : State} (hd : s'.device = s.device) (ha : s'.acc = s.acc) :
    s'.tickSum = s.tickSum := by
  simp only [State.tickSum, State.cfg, hd, ha]

/-- Whether a TICK fires is decided by the constants and `acc` (10_state R30). -/
theorem State.fires_congr {s s' : State} (hd : s'.device = s.device) (ha : s'.acc = s.acc) : s'.fires = s.fires := by
  rw [Bool.eq_iff_iff, State.fires_eq_true_iff, State.fires_eq_true_iff, State.tickSum_congr hd ha, State.cfg, hd]

/-- What a TICK leaves in `acc` is decided by the constants and `acc` (10_state R30). -/
theorem State.accumulate_acc_congr {s s' : State} (hd : s'.device = s.device) (ha : s'.acc = s.acc) :
    s'.accumulate.acc = s.accumulate.acc := by
  simp only [State.accumulate_acc, State.fires_congr hd ha, State.tickSum_congr hd ha, State.cfg, hd]

/-! ### From events to steps and traces -/

/-- What every event keeps, whatever the schedule says, every step keeps. -/
theorem step_keeps {P : State → Prop}
    (schedule : ∀ (s : State) (es : List Event) (n : Nat), P s → P { s with events := es, drawn := n })
    (event : ∀ {e : Event} {s t : State}, Does s e t → P s → P t) {s t : State} (hs : P s) (h : step s = .next t) :
    P t := by
  have hs' : P s.takeEvent := by rw [State.takeEvent_eq]; exact schedule s _ _ hs
  exact event (does_of_runEvent h) hs'

/-- What every event answers in and keeps, every trace ends in (30_encoding R89). -/
theorem runTrace_keeps {P : State → Prop} (event : ∀ (e : Event) (s : State), P s → ∃ t, runEvent e s = .next t ∧ P t)
    (tr : List Event) {s : State} (hs : P s) : ∃ t, runTrace tr s = .next t ∧ P t := by
  induction tr generalizing s with
  | nil => exact ⟨s, rfl, hs⟩
  | cons e es ih =>
    obtain ⟨u, hu, hPu⟩ := event e s hs
    rw [runTrace_cons, hu, andThen_next]
    exact ih hPu

end Sys2Proof.Machine
end

section
/-! Proofs of the obligations on who may write and read what (10_state R25, R26, R28, R30, R34, R36). -/

namespace Sys2Proof.Machine

/-! ### Constants -/

/-- No event writes a constant of the device, nor the schedule (10_state R28, R34). -/
theorem Does.constants {e : Event} {s t : State} (h : Does s e t) :
    t.device = s.device ∧ t.events = s.events ∧ t.drawn = s.drawn := by
  cases h <;> exact ⟨rfl, rfl, rfl⟩

/-- Settles O29: by `Does.constants`, and taking the event leaves the device. -/
theorem constantsNeverChange : Obligations.ConstantsNeverChange := by
  refine ⟨fun s t h => ?_, fun e s t h => (does_of_runEvent h).constants⟩
  obtain ⟨hdevice, -, -⟩ := (does_of_runEvent h).constants
  rw [hdevice, State.takeEvent_device]

/-! ### Writes -/

/-- What a TICK leaves alone, and the one direction in which it writes the flag and `seq` (10_state R22, R30). -/
theorem tick_writes (s : State) :
    let t := s.accumulate.wake
    t.phase = s.phase ∧ t.boot_left = s.boot_left ∧ t.booting = s.booting ∧ t.pins = s.pins ∧
    (s.pulse_req = true → t.pulse_req = true) ∧
    (t.seq = s.seq ∨ s.seq = .S_SLEEP ∧ t.seq = .S_CHECK) ∧
    t.obs.pin_trace = s.obs.pin_trace ∧ t.obs.applies = s.obs.applies ∧ t.obs.clears = s.obs.clears := by
  by_cases hq : s.seq = .S_SLEEP
  · simp +contextual [hq]
  · simp +contextual [hq]

/-- What a STEP leaves alone; of the flag it makes the consumer's write only, in S_CLEAR (10_state R22, R30). -/
theorem Does.step_writes {s t : State} (h : Does s .step t) :
    t.acc = s.acc ∧ (t.pulse_req = s.pulse_req ∨ s.seq = .S_CLEAR ∧ t.pulse_req = false) ∧
    t.obs.ticks = s.obs.ticks ∧ t.obs.fires = s.obs.fires := by
  cases h with
  | reset he => cases he
  | clear hq => exact ⟨rfl, .inr ⟨hq, rfl⟩, rfl, rfl⟩
  | _ => exact ⟨rfl, .inl rfl, rfl, rfl⟩

/-- Settles O30: one agent at a time, `tick_writes` and `Does.step_writes`. -/
theorem writeOwnership : Obligations.WriteOwnership := by
  refine ⟨fun s t h => ?_, fun s t h => (does_of_runEvent h).step_writes⟩
  rw [(does_of_runEvent h).eq_tick]
  exact tick_writes s

/-! ### Reads -/

/-- `acc` is no operand of a STEP (10_state R30, 41_motor_sequencer R154). -/
theorem Does.step_withAcc {s t : State} (h : Does s .step t) (a : Nat) :
    Does { s with acc := a } .step { t with acc := a } := by
  cases h with
  | reset he => cases he
  | bootLast hq hb => exact .bootLast (s := { s with acc := a }) hq hb
  | bootCycle hq hb => exact .bootCycle (s := { s with acc := a }) hq hb
  | apply k hq hp => exact .apply (s := { s with acc := a }) k hq hp
  | holdLast hq hp => exact .holdLast (s := { s with acc := a }) hq hp
  | holdNext hq hp => exact .holdNext (s := { s with acc := a }) hq hp
  | neutral hq => exact .neutral (s := { s with acc := a }) hq
  | wait hq => exact .wait (s := { s with acc := a }) hq
  | check hq => exact .check (s := { s with acc := a }) hq
  | clear hq => exact .clear (s := { s with acc := a }) hq
  | sleep hq => exact .sleep (s := { s with acc := a }) hq

/-- A TICK counts a fire exactly when it fires. -/
theorem tick_counts_fire (s : State) : decide (s.accumulate.wake.obs.fires ≠ s.obs.fires) = s.fires := by
  cases hf : s.fires <;> simp [hf]

/-- Settles O31: a STEP by `Does.step_withAcc`; a TICK is its sum, which the constants and `acc` decide, and its wake,
which `seq` decides. -/
theorem readOwnership : Obligations.ReadOwnership := by
  refine ⟨fun s t a h => runEvent_of_does ((does_of_runEvent h).step_withAcc a), fun s s' t hd ha hq h => ?_⟩
  have hfires : s'.fires = s.fires := State.fires_congr hd ha
  rw [(does_of_runEvent h).eq_tick]
  refine ⟨s'.accumulate.wake, runEvent_tick_eq s', ?_, ?_, ?_, ?_⟩
  · simpa using State.accumulate_acc_congr hd ha
  · simp [hq]
  · simp [hfires]
  · rw [tick_counts_fire, State.wake_pulse_req, State.accumulate_pulse_req, hfires]

/-! ### The startup registers -/

/-- Settles O33: only the two cases of BOOTNEXT write `boot_left` or `booting`. -/
theorem startupRunsOnce : Obligations.StartupRunsOnce := by
  intro e s t he h
  cases does_of_runEvent h with
  | reset hrst => rw [he] at hrst; cases hrst
  | bootLast hq hb => exact ⟨.inl rfl, .inr ⟨rfl, hq, hb, rfl, rfl⟩⟩
  | bootCycle hq hb =>
    have hpos : 0 < s.boot_left := Nat.pos_of_ne_zero hb
    exact ⟨.inr ⟨rfl, hq, hpos, Nat.sub_add_cancel hpos, rfl⟩, .inl rfl⟩
  | _ => exact ⟨.inl rfl, .inl rfl⟩

end Sys2Proof.Machine
end

section
/-! Proofs of the obligations on the invariants (10_state R20, R21, R25, R31, R32; 95_test_vectors V64). -/

namespace Sys2Proof.Machine

/-! ### The invariants of R31 and R32 -/

/-- The index every full cycle begins with has a table entry (20_memory R53). -/
theorem zero_phase_le : (0#3 : Code) ≤ 5#3 := by decide

/-- The invariants at reset; `0 < I` by `1 <= T <= I` (00_scope R7). -/
theorem State.initial_inv (d : WfConfig) : (State.initial d).Inv := by
  obtain ⟨hT, hTI, -, -⟩ := d.property
  exact ⟨lt_of_lt_of_le hT hTI, zero_phase_le, Nat.le_refl _, nofun, fun h => by simp [State.initial] at h,
    fun _ => ⟨rfl, rfl⟩, .inl rfl⟩

/-- Settles O23: `State.reset` is the reset state of one device. -/
theorem invAtReset : Obligations.InvAtReset := ⟨State.initial_inv, State.initial_inv WfConfig.device⟩

/-- A TICK keeps the invariants: `acc` by the arithmetic, and S_CHECK, which it may enter, has the relations of S_SLEEP,
which it leaves. -/
theorem State.Inv.after_tick {s : State} (h : s.Inv) : s.accumulate.wake.Inv := by
  obtain ⟨hacc, hphase, hleft, hdone, hrest, hboot, hpins⟩ := h
  refine ⟨?_, ?_, ?_, ?_, ?_, ?_, ?_⟩
  · simpa using State.accumulate_acc_lt_interval hacc
  · simpa using hphase
  · simpa using hleft
  · simpa using hdone
  · by_cases hq : s.seq = .S_SLEEP
    · exact fun _ => by simpa using hrest (.inl hq)
    · simpa [hq] using hrest
  · intro hw
    have hq : s.accumulate.seq = .S_BOOT := State.seq_of_wake (by decide) hw
    rw [State.accumulate_seq] at hq
    simpa using hboot hq
  · simpa using hpins

/-- A STEP keeps the invariants: one case per row of 41_motor_sequencer R152. -/
theorem Does.step_inv {s t : State} (h : Does s .step t) (hs : s.Inv) : t.Inv := by
  obtain ⟨hacc, hphase, hleft, hdone, hrest, hboot, hpins⟩ := hs
  cases h with
  | reset he => cases he
  | bootLast hq hb =>
    obtain ⟨-, hp⟩ := hboot hq
    exact ⟨hacc, hphase, hleft, fun _ => hb, fun _ => ⟨rfl, hp⟩, nofun, hpins⟩
  | bootCycle hq hb =>
    obtain ⟨hbooting, -⟩ := hboot hq
    exact ⟨hacc, zero_phase_le, (Nat.sub_le _ _).trans hleft, by simp [hbooting], by simp, nofun, hpins⟩
  | apply k hq hp => exact ⟨hacc, hphase, hleft, hdone, by simp, nofun, .inr ⟨k, rfl⟩⟩
  | holdLast hq hp => exact ⟨hacc, hphase, hleft, hdone, by simp, nofun, hpins⟩
  | holdNext hq hp => exact ⟨hacc, by bv_omega, hleft, hdone, by simp, nofun, hpins⟩
  | neutral hq =>
    refine ⟨hacc, zero_phase_le, hleft, hdone, ?_, ?_, .inl rfl⟩
    · cases s.booting <;> simp
    · cases s.booting <;> simp
  | wait hq => exact ⟨hacc, hphase, hleft, hdone, hrest, hboot, hpins⟩
  | check hq =>
    have hidle := hrest (.inr (.inl hq))
    exact ⟨hacc, hphase, hleft, hdone, fun _ => hidle, by cases s.pulse_req <;> simp, hpins⟩
  | clear hq => exact ⟨hacc, zero_phase_le, hleft, hdone, by simp, nofun, hpins⟩
  | sleep hq =>
    have hidle := hrest (.inr (.inr (.inr hq)))
    exact ⟨hacc, hphase, hleft, hdone, fun _ => hidle, nofun, hpins⟩

/-- Every event keeps the invariants; an RST makes them true again. -/
theorem Does.inv {e : Event} {s t : State} (h : Does s e t) (hs : s.Inv) : t.Inv := by
  cases e with
  | step => exact h.step_inv hs
  | tick => rw [h.eq_tick]; exact hs.after_tick
  | rst => cases h; exact State.initial_inv s.device
  | rstTick => cases h; exact State.initial_inv s.device

/-- Settles O24: every event keeps the invariants, and they say nothing of the schedule. -/
theorem everyStepKeepsInv : Obligations.EveryStepKeepsInv :=
  fun _ _ => step_keeps (fun _ _ _ h => h) Does.inv

/-- The invariants rule the one fault out (60_exceptions R171), so every event answers and keeps them. -/
theorem State.Inv.event_answers {s : State} (hs : s.Inv) (e : Event) : ∃ t, runEvent e s = .next t ∧ t.Inv := by
  rcases runEvent_answers e s with ⟨t, ht⟩ | ⟨-, -, hp, -⟩
  · exact ⟨t, runEvent_of_does ht, ht.inv hs⟩
  · obtain ⟨-, hphase, -⟩ := hs
    exact absurd hphase hp

/-- No trace from a state with the invariants stops, and it ends in one that has them. -/
theorem State.Inv.trace_answers {s : State} (hs : s.Inv) (tr : List Event) : ∃ t, runTrace tr s = .next t ∧ t.Inv :=
  runTrace_keeps (P := State.Inv) (fun e _ h => h.event_answers e) tr hs

/-- Every register of a state at reset is that of its device's reset state. -/
theorem State.AtReset.inv {s : State} (h : s.AtReset) : s.Inv := by
  rw [h]
  exact State.initial_inv s.device

theorem State.Reachable.inv {s : State} (h : s.Reachable) : s.Inv := by
  obtain ⟨s₀, tr, h₀, -, hrun⟩ := h
  obtain ⟨t, ht, hinv⟩ := h₀.inv.trace_answers tr
  rw [ht] at hrun
  cases hrun
  exact hinv

/-- Settles O25: the invariants carry along the trace that reaches the state, and along every trace from it. -/
theorem reachableStatesHaveInv : Obligations.ReachableStatesHaveInv :=
  fun _ h => ⟨h.inv, h.inv.trace_answers⟩

/-! ### The selectors a reachable state can show -/

/-- S_NEUTRAL is entered by the HOLDEND of index 5 (41_motor_sequencer R140), and the index is not written there. -/
theorem Does.neutral_phase {e : Event} {s t : State} (h : Does s e t) (hs : s.seq = .S_NEUTRAL → s.phase = 5#3)
    (ht : t.seq = .S_NEUTRAL) : t.phase = 5#3 := by
  cases h with
  | holdLast hq hp => exact hp
  | tickQuiet hf => exact hs (State.seq_of_wake (by decide) ((State.wake_seq s).trans ht))
  | tickFire hf => exact hs (State.seq_of_wake (by decide) ((State.wake_seq s).trans ht))
  | wait hq => exact hs ht
  | neutral hq => cases hb : s.booting <;> simp [hb] at ht
  | check hq => cases hr : s.pulse_req <;> simp [hr] at ht
  | _ => cases ht

/-- S_CLEAR is entered by a CHECK that finds the flag set (41_motor_sequencer R142), and a TICK does not clear it. -/
theorem Does.clear_flag {e : Event} {s t : State} (h : Does s e t) (hs : s.seq = .S_CLEAR → s.pulse_req = true)
    (ht : t.seq = .S_CLEAR) : t.pulse_req = true := by
  cases h with
  | tickQuiet hf => exact hs (State.seq_of_wake (by decide) ((State.wake_seq s).trans ht))
  | tickFire hf => rfl
  | wait hq => exact hs ht
  | neutral hq => cases hb : s.booting <;> simp [hb] at ht
  | check hq => cases hr : s.pulse_req <;> simp [hr] at ht ⊢
  | _ => cases ht

theorem Does.selectorInv {e : Event} {s t : State} (h : Does s e t) (hs : s.SelectorInv) : t.SelectorInv := by
  obtain ⟨hinv, hneutral, hclear⟩ := hs
  exact ⟨h.inv hinv, h.neutral_phase hneutral, h.clear_flag hclear⟩

/-- The reachable STEP selectors of 95_test_vectors V64, by `seq`: the index is 0 to 5 in S_APPLY and S_HOLD, 5 in
S_NEUTRAL and 0 elsewhere. -/
theorem State.SelectorInv.stepSelector {s : State} (hs : s.SelectorInv) :
    Sys2Proof.selector .step s.seq s.phase ∈
      [0x00#8, 0x08#8, 0x09#8, 0x0A#8, 0x0B#8, 0x0C#8, 0x0D#8, 0x10#8, 0x11#8, 0x12#8, 0x13#8, 0x14#8, 0x15#8, 0x1D#8,
       0x20#8, 0x28#8, 0x30#8, 0x38#8] := by
  obtain ⟨⟨-, hphase, -, -, hrest, hboot, -⟩, hneutral, -⟩ := hs
  obtain ⟨k, hk⟩ := phase_index hphase
  cases hq : s.seq with
  | S_BOOT => obtain ⟨-, hp⟩ := hboot hq; rw [hp]; decide
  | S_APPLY => rw [hk]; fin_cases k <;> decide
  | S_HOLD => rw [hk]; fin_cases k <;> decide
  | S_NEUTRAL => rw [hneutral hq]; decide
  | S_SLEEP => obtain ⟨-, hp⟩ := hrest (.inl hq); rw [hp]; decide
  | S_CHECK => obtain ⟨-, hp⟩ := hrest (.inr (.inl hq)); rw [hp]; decide
  | S_CLEAR => obtain ⟨-, hp⟩ := hrest (.inr (.inr (.inl hq))); rw [hp]; decide
  | S_DOZE => obtain ⟨-, hp⟩ := hrest (.inr (.inr (.inr hq))); rw [hp]; decide

/-- Settles O26: at reset the sequencer is in neither S_NEUTRAL nor S_CLEAR. -/
theorem reachableSelectors : Obligations.ReachableSelectors :=
  ⟨fun d => ⟨State.initial_inv d, nofun, nofun⟩, fun _ _ => step_keeps (fun _ _ _ h => h) Does.selectorInv,
    fun _ => State.SelectorInv.stepSelector⟩

/-! ### Widths -/

/-- The widths at reset: `STARTUP_CYCLES <= 2^BW - 1` (00_scope R7). -/
theorem State.initial_fitsWidths (d : WfConfig) : (State.initial d).FitsWidths := by
  obtain ⟨-, -, -, hBW⟩ := d.property
  exact ⟨Nat.two_pow_pos _, Nat.lt_of_le_pred (Nat.two_pow_pos _) hBW⟩

/-- `acc` is written by TICK modulo `2^W`, and `boot_left` counts down. -/
theorem Does.fitsWidths {e : Event} {s t : State} (h : Does s e t) (hs : s.FitsWidths) : t.FitsWidths := by
  obtain ⟨hacc, hleft⟩ := hs
  cases h with
  | reset he => exact State.initial_fitsWidths s.device
  | tickQuiet hf => exact ⟨s.tickSum_lt_width, hleft⟩
  | tickFire hf => exact ⟨Nat.mod_lt _ (Nat.two_pow_pos _), hleft⟩
  | bootCycle hq hb => exact ⟨hacc, (Nat.sub_le _ _).trans_lt hleft⟩
  | _ => exact ⟨hacc, hleft⟩

/-- Settles O28: every event keeps the widths. -/
theorem registersFitWidths : Obligations.RegistersFitWidths :=
  ⟨State.initial_fitsWidths, fun _ _ => step_keeps (fun _ _ _ h => h) Does.fitsWidths⟩

end Sys2Proof.Machine
end

section
/-! Proof of the obligation on the output port (20_memory R52, R54, R55, R63). -/

namespace Sys2Proof.Machine

/-- `pins` is no operand of any operation (20_memory R63): with other lines shown the same case of the event applies, and
it differs in the lines it leaves only; those are `v` where the case writes no line. -/
theorem Does.withPins {e : Event} {s t : State} (h : Does s e t) (v : Code) :
    ∃ w, Does { s with pins := v } e { t with pins := w } := by
  cases h with
  | reset he => exact ⟨s.cfg.NEUTRAL, .reset (s := { s with pins := v }) he⟩
  | tickQuiet hf => exact ⟨v, .tickQuiet (s := { s with pins := v }) hf⟩
  | tickFire hf => exact ⟨v, .tickFire (s := { s with pins := v }) hf⟩
  | bootLast hq hb => exact ⟨v, .bootLast (s := { s with pins := v }) hq hb⟩
  | bootCycle hq hb => exact ⟨v, .bootCycle (s := { s with pins := v }) hq hb⟩
  | apply k hq hp => exact ⟨s.cfg.PT[k], .apply (s := { s with pins := v }) k hq hp⟩
  | holdLast hq hp => exact ⟨v, .holdLast (s := { s with pins := v }) hq hp⟩
  | holdNext hq hp => exact ⟨v, .holdNext (s := { s with pins := v }) hq hp⟩
  | neutral hq => exact ⟨s.cfg.NEUTRAL, .neutral (s := { s with pins := v }) hq⟩
  | wait hq => exact ⟨v, .wait (s := { s with pins := v }) hq⟩
  | check hq => exact ⟨v, .check (s := { s with pins := v }) hq⟩
  | clear hq => exact ⟨v, .clear (s := { s with pins := v }) hq⟩
  | sleep hq => exact ⟨v, .sleep (s := { s with pins := v }) hq⟩

/-- Settles O32: no event reads the port by `Does.withPins`; of the cases of an event only RESET, PHk and NEUTRAL write
it, and the `seq` of every other case of a STEP is neither S_APPLY nor S_NEUTRAL. -/
theorem portWrites : Obligations.PortWrites := by
  refine ⟨fun e s t v h => ?_, fun e s t h => ?_⟩
  · obtain ⟨w, hw⟩ := (does_of_runEvent h).withPins v
    exact ⟨w, runEvent_of_does hw⟩
  · cases does_of_runEvent h with
    | apply k hq hp => exact .inl ⟨k, rfl, hq, hp, rfl, rfl⟩
    | neutral hq => exact .inr (.inl ⟨rfl, hq, rfl, rfl⟩)
    | reset he => exact .inr (.inr (.inl ⟨he, rfl, rfl⟩))
    | _ => exact .inr (.inr (.inr ⟨rfl, by simp [*], rfl, rfl⟩))

end Sys2Proof.Machine
end

section
/-! Support for the proofs about the encoding (30_encoding): how a step of the core and the choice of the operation go
through one event, the fields of a selector, and the rows of the opcode map. -/

namespace Sys2Proof

/-! ### The fields of a selector (R83) -/

theorem selector_eventBits (e : Event) (q : Seq) (p : Code) : (selector e q p).extractLsb' 6 2 = e.code :=
  (BitVec.extractLsb'_append_eq_of_le (by decide)).trans BitVec.extractLsb'_append_eq_left

theorem selector_seqBits (e : Event) (q : Seq) (p : Code) : (selector e q p).extractLsb' 3 3 = q.code :=
  (BitVec.extractLsb'_append_eq_of_le (by decide)).trans BitVec.extractLsb'_append_eq_right

theorem selector_phaseBits (e : Event) (q : Seq) (p : Code) : (selector e q p).extractLsb' 0 3 = p :=
  BitVec.extractLsb'_append_eq_right

/-- Every event code stands for one event (R81). -/
@[simp] theorem Event.code_ofCode : ∀ ev : EventCode, (Event.ofCode ev).code = ev := by decide

/-- Every state code stands for one value of `seq` (R82). -/
@[simp] theorem Seq.code_ofCode : ∀ c : Code, (Seq.ofCode c).code = c := by decide

/-- A selector is its three fields put together (R83). -/
theorem selector_fields (sel : Selector) : selector (eventField sel) (seqField sel) (phaseField sel) = sel := by
  have hupper : sel.extractLsb' 6 2 ++ sel.extractLsb' 3 3 = sel.extractLsb' 3 5 :=
    BitVec.extractLsb'_append_extractLsb'_eq_extractLsb' rfl
  rw [selector, eventField, Event.code_ofCode, seqField, Seq.code_ofCode, phaseField, hupper]
  exact BitVec.extractLsb'_append_extractLsb'

/-- So every selector is formed from an event, a value of `seq` and a phase. -/
theorem exists_selector (sel : Selector) : ∃ e q p, selector e q p = sel := ⟨_, _, _, selector_fields sel⟩

/-! ### Masks (R87) -/

/-- The mask `0xC0` of format E keeps the event field only. -/
theorem selector_and_eventMask (e : Event) (q : Seq) (p : Code) :
    selector e q p &&& 0xC0#8 = e.code ++ 0b000#3 ++ 0b000#3 := by
  rw [selector, show 0xC0#8 = 0b11#2 ++ 0b000#3 ++ 0b000#3 from rfl, BitVec.and_append, BitVec.and_append,
    BitVec.and_zero, BitVec.and_zero]
  cases e <;> rfl

/-- The mask `0xF8` of format S drops the phase field only. -/
theorem selector_and_seqMask (e : Event) (q : Seq) (p : Code) :
    selector e q p &&& 0xF8#8 = e.code ++ q.code ++ 0b000#3 := by
  rw [selector, show 0xF8#8 = 0b11#2 ++ 0b111#3 ++ 0b000#3 from rfl, BitVec.and_append, BitVec.and_append,
    BitVec.and_zero]
  cases e <;> cases q <;> rfl

/-- The mask `0x80` of RESET looks at the `rst` bit, which is in the event field. -/
theorem selector_and_rstMask (e : Event) (q : Seq) (p : Code) :
    selector e q p &&& 0x80#8 = (e.code ++ 0b000#3 ++ 0b000#3) &&& 0x80#8 := by
  rw [← selector_and_eventMask e q p, BitVec.and_assoc]
  rfl

/-! ### The rows of the opcode map (R87, R88) -/

theorem ownRow (i : Instr) : Laws.OwnRow.Statement i := by
  cases i with
  | reset => exact Laws.OwnRow.reset
  | tick => exact Laws.OwnRow.tick
  | bootnext => exact Laws.OwnRow.bootnext
  | ph0 => exact Laws.OwnRow.ph0
  | ph1 => exact Laws.OwnRow.ph1
  | ph2 => exact Laws.OwnRow.ph2
  | ph3 => exact Laws.OwnRow.ph3
  | ph4 => exact Laws.OwnRow.ph4
  | ph5 => exact Laws.OwnRow.ph5
  | holdend => exact Laws.OwnRow.holdend
  | neutral => exact Laws.OwnRow.neutral
  | wait => exact Laws.OwnRow.wait
  | check => exact Laws.OwnRow.check
  | clear => exact Laws.OwnRow.clear
  | sleep => exact Laws.OwnRow.sleep

/-- The operation of each of the six indices, and its row: format P looks at the whole selector. -/
theorem decodePhase_row (k : Fin 6) :
    ∃ i, decodePhase (BitVec.ofNat 3 k) = .ok i ∧
      selector .step .S_APPLY (BitVec.ofNat 3 k) &&& i.mask = i.pattern := by
  fin_cases k
  · exact ⟨.ph0, rfl, rfl⟩
  · exact ⟨.ph1, rfl, rfl⟩
  · exact ⟨.ph2, rfl, rfl⟩
  · exact ⟨.ph3, rfl, rfl⟩
  · exact ⟨.ph4, rfl, rfl⟩
  · exact ⟨.ph5, rfl, rfl⟩

/-- An index is past the table when it is 6 or 7 (20_memory R53). -/
theorem not_phase_le_iff : ∀ p : Code, ¬ p ≤ 5#3 ↔ p = 6#3 ∨ p = 7#3 := by decide

theorem decodePhase_eq_error_iff (p : Code) : decodePhase p = .error .phaseIndexOutOfRange ↔ ¬ p ≤ 5#3 := by
  revert p; decide

/-- A STEP's operation has the row its selector matches. -/
theorem decodeStep_row {q : Seq} {p : Code} {i : Instr} (h : decodeStep q p = .ok i) :
    selector .step q p &&& i.mask = i.pattern := by
  cases q with
  | S_APPLY =>
    by_cases hp : p ≤ 5#3
    · obtain ⟨k, rfl⟩ := Machine.phase_index hp
      obtain ⟨j, hj, hrow⟩ := decodePhase_row k
      cases hj.symm.trans h
      exact hrow
    · cases ((decodePhase_eq_error_iff p).mpr hp).symm.trans h
  | S_HOLD =>
    by_cases hp : p ≤ 5#3
    · cases (if_pos hp).symm.trans h; exact selector_and_seqMask _ _ p
    · cases (if_neg hp).symm.trans h
  | _ => cases h; exact selector_and_seqMask _ _ p

/-- The operation a selector decodes to has the row it matches. -/
theorem decode_row {sel : Selector} {i : Instr} (h : decode sel = .ok i) : sel &&& i.mask = i.pattern := by
  obtain ⟨e, q, p, rfl⟩ := exists_selector sel
  rw [decode_selector] at h
  cases e with
  | step => exact decodeStep_row h
  | tick => cases h; exact selector_and_eventMask .tick q p
  | rst => cases h; exact selector_and_rstMask .rst q p
  | rstTick => cases h; exact selector_and_rstMask .rstTick q p

/-- A STEP has no operation in S_APPLY and S_HOLD with an index past the table, and nowhere else (R88). -/
theorem decodeStep_eq_error_iff (q : Seq) (p : Code) :
    decodeStep q p = .error .phaseIndexOutOfRange ↔ (q = .S_APPLY ∨ q = .S_HOLD) ∧ ¬ p ≤ 5#3 := by
  cases q with
  | S_APPLY => simpa [decodeStep] using decodePhase_eq_error_iff p
  | S_HOLD => simp [decodeStep]
  | _ => simp [decodeStep]

/-- The rejected selectors by their fields (R88). -/
theorem decode_selector_eq_error_iff (e : Event) (q : Seq) (p : Code) :
    decode (selector e q p) = .error .phaseIndexOutOfRange ↔
      e = .step ∧ (q = .S_APPLY ∨ q = .S_HOLD) ∧ ¬ p ≤ 5#3 := by
  rw [decode_selector]
  cases e with
  | step => simpa using decodeStep_eq_error_iff q p
  | _ => simp

/-- The rejected selectors by their words (R88). -/
theorem decode_eq_error_iff (sel : Selector) :
    decode sel = .error .phaseIndexOutOfRange ↔ sel = 0x0E#8 ∨ sel = 0x0F#8 ∨ sel = 0x16#8 ∨ sel = 0x17#8 := by
  constructor
  · obtain ⟨e, q, p, rfl⟩ := exists_selector sel
    rw [decode_selector_eq_error_iff, not_phase_le_iff]
    rintro ⟨rfl, rfl | rfl, rfl | rfl⟩
    · exact .inl rfl
    · exact .inr (.inl rfl)
    · exact .inr (.inr (.inl rfl))
    · exact .inr (.inr (.inr rfl))
  · rintro (rfl | rfl | rfl | rfl) <;> rfl

/-- A selector has the operation whose row it matches, unless it is rejected: the row of the operation it does have
overlaps with no other (R87). -/
theorem decode_eq_ok_iff (sel : Selector) (i : Instr) :
    decode sel = .ok i ↔ sel &&& i.mask = i.pattern ∧ decode sel ≠ .error .phaseIndexOutOfRange := by
  refine ⟨fun h => ⟨decode_row h, by simp [h]⟩, fun ⟨hrow, hne⟩ => ?_⟩
  cases hd : decode sel with
  | error r => cases r; exact absurd hd hne
  | ok j => rw [ownRow i j sel hrow (decode_row hd)]

/-! ### Encoding (R87) -/

/-- The match column has no bit outside the mask. -/
theorem Instr.pattern_and_mask (i : Instr) : i.pattern &&& i.mask = i.pattern := by cases i <;> rfl

/-- An encoding matches its operation's row, whatever stands on the other bits. -/
theorem encodeWith_row (i : Instr) (rest : Selector) : encodeWith i rest &&& i.mask = i.pattern := by
  rw [encodeWith, BitVec.and_or_distrib_right, i.pattern_and_mask, BitVec.and_assoc, BitVec.not_and_self]
  simp

/-- A selector that matches a row is the row's pattern and the bits it does not decode. -/
theorem encodeWith_of_row {i : Instr} {sel : Selector} (h : sel &&& i.mask = i.pattern) : encodeWith i sel = sel := by
  rw [encodeWith, ← h, ← BitVec.and_or_distrib_left, BitVec.or_not_self, BitVec.and_allOnes]

/-- HOLDEND does not decode the index it shows (R84). -/
theorem phaseField_encodeWith_holdend (rest : Selector) : phaseField (encodeWith .holdend rest) = phaseField rest := by
  rw [phaseField, encodeWith, BitVec.extractLsb'_or, BitVec.extractLsb'_and]
  exact (BitVec.zero_or).trans BitVec.and_allOnes

/-- Of the rejected selectors, S_APPLY's match no row and S_HOLD's match that of HOLDEND, with an index past the table
(R88). -/
theorem eq_holdend_of_rejected {i : Instr} {sel : Selector} (hd : decode sel = .error .phaseIndexOutOfRange)
    (hrow : sel &&& i.mask = i.pattern) : i = .holdend ∧ ¬ phaseField sel ≤ 5#3 := by
  rcases (decode_eq_error_iff sel).mp hd with rfl | rfl | rfl | rfl
  · cases i <;> cases hrow
  · cases i <;> cases hrow
  · exact ⟨ownRow .holdend i _ rfl hrow, by decide⟩
  · exact ⟨ownRow .holdend i _ rfl hrow, by decide⟩

/-- Decoding an encoding gives the operation back (R87, R88). -/
theorem decode_encodeWith {i : Instr} {rest : Selector} (h : i = .holdend → phaseField rest ≤ 5#3) :
    decode (encodeWith i rest) = .ok i := by
  refine (decode_eq_ok_iff _ _).mpr ⟨encodeWith_row i rest, fun hd => ?_⟩
  obtain ⟨rfl, hp⟩ := eq_holdend_of_rejected hd (encodeWith_row i rest)
  rw [phaseField_encodeWith_holdend] at hp
  exact hp (h rfl)

end Sys2Proof

namespace Sys2Proof.Machine

/-! ### Events and steps -/

/-- An event performs the operation its selector decodes to (R83). -/
theorem runEvent_of_decode {e : Event} {s : State} {i : Instr} (h : decode (s.selector e) = .ok i) :
    runEvent e s = exec i s := by
  rw [runEvent, h]

/-- A step takes the head of the script (20_memory R57). -/
theorem step_of_script {s : State} {e : Event} {es : List Event} (h : s.events = e :: es) :
    step s = runEvent e { s with events := es } := by
  rw [step_eq, State.nextEvent, State.takeEvent, h]

/-- With the script empty, a step draws from the free schedule. -/
theorem step_of_empty_script {s : State} (h : s.events = []) :
    step s = runEvent (Config.freeEvent s.drawn) { s with drawn := s.drawn + 1 } := by
  rw [step_eq, State.nextEvent, State.takeEvent, h]

/-- An event answers alike whatever is scripted, and leaves the script. -/
theorem runEvent_withScript (e : Event) (s : State) (es : List Event) :
    runEvent e { s with events := es } = andThen (runEvent e s) fun t => .next { t with events := es } := by
  refine (runEvent_withSchedule e s es s.drawn).trans ?_
  rcases runEvent_answers e s with ⟨t, ht⟩ | ⟨-, -, -, hf⟩
  · obtain ⟨-, -, hdrawn⟩ := ht.constants
    rw [runEvent_of_does ht, andThen_next, andThen_next, ← hdrawn]
  · rw [hf]; rfl

/-- A run of a machine is a step, then the run of the steps left. -/
theorem run_succ (M : Host.Core) (k : Nat) (s : M.State) : M.run (k + 1) s = andThen (M.step s) (M.run k) := by
  rw [Host.Core.run]
  cases M.step s <;> rfl

/-- The same, with this model's step. -/
theorem core_run_succ (k : Nat) (s : State) :
    Sys2Proof.core.run (k + 1) s = andThen (step s) (Sys2Proof.core.run k) := run_succ Sys2Proof.core k s

/-- A scripted run is the run of its trace: each step takes the trace's next event, and the script is no operand of it
(R89, 20_memory R57). -/
theorem core_run_script (tr rest : List Event) (s : State) :
    Sys2Proof.core.run tr.length { s with events := tr ++ rest } = runTrace tr { s with events := rest } := by
  induction tr generalizing s with
  | nil => rfl
  | cons e es ih =>
    have hstep : step { s with events := e :: es ++ rest } = runEvent e { s with events := es ++ rest } :=
      step_of_script rfl
    rw [List.length_cons, core_run_succ, hstep, runTrace_cons, runEvent_withScript e s (es ++ rest),
      runEvent_withScript e s rest]
    cases runEvent e s with
    | next t => exact ih t
    | fault f => rfl
    | refused r => rfl

end Sys2Proof.Machine
end

section
/-! Proofs of the obligations on the encoding (30_encoding R81 to R89). -/

namespace Sys2Proof.Machine

/-- Settles O22: by induction on the trace, `core_run_script`. -/
theorem scriptedRunIsTrace : Obligations.ScriptedRunIsTrace := core_run_script

/-- Settles O1: the three fields one by one, and `runEvent_of_decode`. -/
theorem selectorFields : Obligations.SelectorFields :=
  ⟨fun e q p => ⟨selector_eventBits e q p, selector_seqBits e q p, selector_phaseBits e q p⟩,
    rfl, rfl, rfl, rfl, rfl, rfl, rfl, rfl, rfl, rfl, rfl, rfl,
    Event.code_ofCode, Seq.code_ofCode, fun _ _ _ => runEvent_of_decode⟩

/-- Settles O2: the columns row by row; an operation by `decode_eq_ok_iff`, a rejection by `decode_eq_error_iff`. -/
theorem decodeIsTheOpcodeMap : Obligations.DecodeIsTheOpcodeMap := by
  refine ⟨by decide, fun sel i => ?_, decode_eq_error_iff⟩
  rw [decode_eq_ok_iff, Ne, decode_eq_error_iff, not_or, not_or, not_or]

/-- Settles O3: the decoder evaluated on each word. -/
theorem decodedWords : Obligations.DecodedWords :=
  ⟨rfl, rfl, rfl, rfl, rfl, rfl, rfl, rfl, rfl, rfl, rfl, rfl, rfl⟩

/-- Settles O4: `decode_encodeWith` one way, for `encode` with 0 on the bits not decoded; the other way a decoded
selector matches its operation's row, `decode_row`. -/
theorem decodeEncodeAgree : Obligations.DecodeEncodeAgree :=
  ⟨fun _ => decode_encodeWith fun _ => by decide, fun _ _ => decode_encodeWith,
    fun _ _ h => encodeWith_of_row (decode_row h)⟩

/-- Settles O6: a step runs the event it takes, and that the operation its selector decodes to. -/
theorem stepRunsDecodedOperation : Obligations.StepRunsDecodedOperation :=
  ⟨fun _ _ _ _ hev hd => (step_of_script hev).trans (runEvent_of_decode hd),
    fun _ _ hev hd => (step_of_empty_script hev).trans (runEvent_of_decode hd)⟩

end Sys2Proof.Machine
end

section
/-! Support for the proofs about the Rate Accumulator (40_rate_accumulator): the books a run without RST keeps between
the TICKs, the fires and `acc`, and the arithmetic of the distance between two fires. -/

namespace Sys2Proof.Machine

/-! ### One TICK -/

/-- `acc + T` fits `acc`, as `I + T <= 2^W` (R116). -/
theorem State.acc_add_period_lt_width {s : State} (h : s.acc < s.cfg.I) : s.acc + s.cfg.T < 2 ^ s.cfg.W :=
  State.tickSum_of_acc_lt h ▸ s.tickSum_lt_width

/-- From `acc < I` a TICK fires exactly when `acc + T` reaches `I` (R112, R116). -/
theorem State.fires_iff_of_acc_lt {s : State} (h : s.acc < s.cfg.I) :
    s.fires = true ↔ s.cfg.I ≤ s.acc + s.cfg.T := by
  rw [State.fires_eq_true_iff, State.tickSum_of_acc_lt h]

/-- From `acc < I` a TICK does not fire exactly when `acc + T` stays below `I` (R112, R116). -/
theorem State.not_fires_iff_of_acc_lt {s : State} (h : s.acc < s.cfg.I) :
    s.fires = false ↔ s.acc + s.cfg.T < s.cfg.I := by
  rw [← Bool.not_eq_true, State.fires_iff_of_acc_lt h, Nat.not_le]

theorem State.accumulate_acc_of_not_fires {s : State} (h : s.acc < s.cfg.I) (hf : s.fires = false) :
    s.accumulate.acc = s.acc + s.cfg.T := by
  rw [State.accumulate_of_not_fires hf]
  exact State.tickSum_of_acc_lt h

theorem State.accumulate_acc_of_fires {s : State} (h : s.acc < s.cfg.I) (hf : s.fires = true) :
    s.accumulate.acc = s.acc + s.cfg.T - s.cfg.I := by
  rw [State.accumulate_acc, if_pos hf, State.tickSum_of_acc_lt h,
    Nat.mod_eq_of_lt (Nat.sub_lt_of_lt (State.acc_add_period_lt_width h))]

/-- A TICK adds `T` to the ticked time, and a fire moves `I` of it from `acc` to the count (R117). -/
theorem State.accumulate_balance {s : State} (h : s.acc < s.cfg.I) :
    s.accumulate.acc + s.fires.toNat * s.cfg.I = s.acc + s.cfg.T := by
  cases hf : s.fires with
  | false => simp [State.accumulate_acc_of_not_fires h hf]
  | true =>
    have hle := (State.fires_iff_of_acc_lt h).mp hf
    simp [State.accumulate_acc_of_fires h hf, Nat.sub_add_cancel hle]

/-- A TICK that counts one fire more took the fire arm. -/
theorem State.fires_of_count {s : State} (h : s.accumulate.wake.obs.fires = s.obs.fires + 1) : s.fires = true := by
  cases hf : s.fires with
  | false => simp [hf] at h
  | true => rfl

/-! ### The books of a run -/

/-- What `n` TICKs without RST come to, from `s` to `t`: the constants stay, `acc` stays below `I`, the TICKs are
counted, and the ticked time is in `acc` and in the counted fires (R116, R117). -/
structure Accounted (n : Nat) (s t : State) : Prop where
  device : t.device = s.device
  acc_lt : t.acc < s.cfg.I
  ticks : t.obs.ticks = s.obs.ticks + n
  balance : t.acc + t.obs.fires * s.cfg.I = n * s.cfg.T + s.acc + s.obs.fires * s.cfg.I

theorem Accounted.cfg {n : Nat} {s t : State} (h : Accounted n s t) : t.cfg = s.cfg := congrArg Subtype.val h.device

theorem Accounted.refl {s : State} (h : s.acc < s.cfg.I) : Accounted 0 s s :=
  ⟨rfl, h, rfl, by rw [Nat.zero_mul, Nat.zero_add]⟩

theorem Accounted.trans {m n : Nat} {s u t : State} (hm : Accounted m s u) (hn : Accounted n u t) :
    Accounted (m + n) s t := by
  obtain ⟨hdevice, hlt, hticks, hbalance⟩ := hn
  rw [hm.cfg] at hlt hbalance
  refine ⟨hdevice.trans hm.device, hlt, by rw [hticks, hm.ticks, Nat.add_assoc], ?_⟩
  have := hm.balance
  rw [Nat.add_mul]
  omega

/-- A STEP is no TICK and leaves the books alone (10_state R30). -/
theorem Accounted.of_step {s t : State} (hs : s.acc < s.cfg.I) (h : Does s .step t) : Accounted 0 s t := by
  obtain ⟨hdevice, -, -⟩ := h.constants
  obtain ⟨hacc, -, hticks, hfires⟩ := h.step_writes
  exact ⟨hdevice, hacc ▸ hs, hticks, by rw [hacc, hfires, Nat.zero_mul, Nat.zero_add]⟩

theorem Accounted.of_tick {s : State} (hs : s.acc < s.cfg.I) : Accounted 1 s s.accumulate.wake where
  device := by simp
  acc_lt := by simpa using State.accumulate_acc_lt_interval hs
  ticks := by simp
  balance := by
    have hone := State.accumulate_balance hs
    simp only [State.wake_acc, State.wake_obs, State.accumulate_obs, Nat.add_mul, Nat.one_mul]
    omega

/-- A run without RST is accounted for by its TICKs, whatever STEPs are interleaved (R117). -/
theorem Accounted.of_trace {tr : List Event} {s t : State} (hs : s.acc < s.cfg.I) (hfree : RstFree tr)
    (h : runTrace tr s = .next t) : Accounted (tr.count .tick) s t := by
  induction tr generalizing s with
  | nil => cases h; exact .refl hs
  | cons e es ih =>
    obtain ⟨he, hes⟩ := List.forall_mem_cons.mp hfree
    obtain ⟨u, hu, hrest⟩ := (andThen_eq_next _).mp h
    have rest {n : Nat} (hn : Accounted n s u) : Accounted (n + es.count .tick) s t :=
      hn.trans (ih (hn.cfg ▸ hn.acc_lt) hes hrest)
    cases e with
    | step => simpa using rest (.of_step hs (does_of_runEvent hu))
    | tick =>
      rw [(does_of_runEvent hu).eq_tick] at rest
      simpa [Nat.add_comm] using rest (.of_tick hs)
    | rst => cases he
    | rstTick => cases he

/-- `acc` is the remainder of the ticked time (R117). -/
theorem Accounted.acc_eq {n : Nat} {s t : State} (h : Accounted n s t) :
    t.acc = (n * s.cfg.T + s.acc) % s.cfg.I := by
  calc t.acc = (t.acc + t.obs.fires * s.cfg.I) % s.cfg.I := by
        rw [Nat.add_mul_mod_self_right, Nat.mod_eq_of_lt h.acc_lt]
    _ = (n * s.cfg.T + s.acc) % s.cfg.I := by rw [h.balance, Nat.add_mul_mod_self_right]

/-- The fires counted are the quotient (R117). -/
theorem Accounted.fires_eq {n : Nat} {s t : State} (h : Accounted n s t) :
    t.obs.fires = s.obs.fires + (n * s.cfg.T + s.acc) / s.cfg.I := by
  have hI : 0 < s.cfg.I := Nat.zero_lt_of_lt h.acc_lt
  calc t.obs.fires = (t.acc + t.obs.fires * s.cfg.I) / s.cfg.I := by
        rw [Nat.add_mul_div_right _ _ hI, Nat.div_eq_of_lt h.acc_lt, Nat.zero_add]
    _ = s.obs.fires + (n * s.cfg.T + s.acc) / s.cfg.I := by
        rw [h.balance, Nat.add_mul_div_right _ _ hI, Nat.add_comm]

/-- While no fire is counted `acc` holds all the ticked time (R118). -/
theorem Accounted.acc_of_no_fire {n : Nat} {s t : State} (h : Accounted n s t) (hf : t.obs.fires = s.obs.fires) :
    t.acc = n * s.cfg.T + s.acc :=
  Nat.add_right_cancel (hf ▸ h.balance)

/-! ### Runs from reset -/

/-- An RST that opens a run from reset changes nothing (30_encoding R89, 70_reset_and_hazards R201). -/
theorem runEvent_rst_initial {e : Event} (he : e.isRst = true) (d : WfConfig) :
    runEvent e (State.initial d) = .next (State.initial d) :=
  runEvent_of_does (.reset (s := State.initial d) he)

theorem State.initial_acc_lt (d : WfConfig) : (State.initial d).acc < (State.initial d).cfg.I := by
  obtain ⟨hacc, -⟩ := State.initial_inv d
  exact hacc

/-- A run from reset is accounted for by its TICKs, whether or not an RST opens it. -/
theorem Accounted.of_reset {tr : List Event} {d : WfConfig} {t : State} (hno : NoRst tr)
    (h : runTrace tr (State.initial d) = .next t) : Accounted (tr.count .tick) (State.initial d) t := by
  cases tr with
  | nil => cases h; exact .refl (State.initial_acc_lt d)
  | cons e es =>
    cases he : e.isRst with
    | false => exact .of_trace (State.initial_acc_lt d) (List.forall_mem_cons.mpr ⟨he, hno⟩) h
    | true =>
      have htick : e ≠ .tick := by rintro rfl; cases he
      rw [runTrace_cons, runEvent_rst_initial he, andThen_next] at h
      rw [List.count_cons_of_ne htick]
      exact .of_trace (State.initial_acc_lt d) hno h

/-- From reset the ticked time is all in `acc` and in the fires (R117). -/
theorem Accounted.balance_of_reset {n : Nat} {d : WfConfig} {t : State} (h : Accounted n (State.initial d) t) :
    t.acc + t.obs.fires * d.val.I = n * d.val.T := by
  simpa [State.initial, Observer.empty] using h.balance

/-- No event writes the device, so no trace does (10_state R28). -/
theorem runTrace_device {tr : List Event} {s t : State} (h : runTrace tr s = .next t) : t.device = s.device := by
  induction tr generalizing s with
  | nil => cases h; rfl
  | cons e es ih =>
    obtain ⟨u, hu, hrest⟩ := (andThen_eq_next _).mp h
    obtain ⟨hdevice, -, -⟩ := (does_of_runEvent hu).constants
    rw [ih hrest, hdevice]

/-! ### The distance between two fires (R118) -/

/-- A fire is the first time the time ticked since the last fire reaches `I` (R118). -/
theorem Accounted.first_reach {n : Nat} {s t : State} (h : Accounted n s t) (hquiet : t.obs.fires = s.obs.fires)
    (hfire : t.fires = true) : n * s.cfg.T + s.acc < s.cfg.I ∧ s.cfg.I ≤ n * s.cfg.T + s.acc + s.cfg.T := by
  have hlt := h.acc_lt
  have hreach := (State.fires_iff_of_acc_lt (h.cfg ▸ hlt)).mp hfire
  rw [h.cfg] at hreach
  rw [h.acc_of_no_fire hquiet] at hlt hreach
  exact ⟨hlt, hreach⟩

/-- A fire leaves less than one period in `acc` (R116, R118). -/
theorem Accounted.acc_lt_period_of_fire {n : Nat} {s t : State} (h : Accounted n s t) (hfire : t.fires = true) :
    t.accumulate.wake.acc < s.cfg.T := by
  rw [State.wake_acc, ← h.cfg]
  exact State.accumulate_acc_lt_of_fires (h.cfg ▸ h.acc_lt) hfire

/-- One TICK more is on the books. -/
theorem Accounted.then_tick {n : Nat} {s t : State} (h : Accounted n s t) : Accounted (n + 1) s t.accumulate.wake :=
  h.trans (.of_tick (h.cfg ▸ h.acc_lt))

/-- `ceil(I / T)` is the number of whole periods that first reach `I`. -/
theorem ceilDiv_eq_of_first_reach {n T I : Nat} (hbefore : n * T < I) (hreach : I ≤ (n + 1) * T) :
    (I + T - 1) / T = n + 1 := by
  have hone := Nat.add_one_mul n T
  have htwo := Nat.add_one_mul (n + 1) T
  refine Nat.div_eq_of_lt_le ?_ ?_ <;> omega

/-- The periods that first reach `I` from a remainder below `T` are `floor(I / T)` or `ceil(I / T)`. -/
theorem floorDiv_or_ceilDiv_of_first_reach {n r T I : Nat} (hr : r < T) (hbefore : n * T + r < I)
    (hreach : I ≤ n * T + r + T) : n + 1 = I / T ∨ n + 1 = (I + T - 1) / T := by
  have hone := Nat.add_one_mul n T
  have htwo := Nat.add_one_mul (n + 1) T
  by_cases hle : I ≤ (n + 1) * T
  · exact .inr (ceilDiv_eq_of_first_reach (by omega) hle).symm
  · exact .inl (Nat.div_eq_of_lt_le (by omega) (by omega)).symm

end Sys2Proof.Machine
end

section
/-! Proofs of the obligations on the Rate Accumulator (40_rate_accumulator R110 to R120). -/

namespace Sys2Proof.Machine

/-- Settles O36: every run without RST keeps the books of `Accounted`, by induction on the trace; `acc < I` makes them
a division. -/
theorem accumulatorClosedForm : Obligations.AccumulatorClosedForm := by
  refine ⟨fun s t tr hs hfree h => ?_, fun d tr hno => ?_⟩
  · have hbooks := Accounted.of_trace hs hfree h
    exact ⟨hbooks.acc_eq, hbooks.fires_eq⟩
  · obtain ⟨t, ht, -⟩ := (State.initial_inv d).trace_answers tr
    have hbooks := Accounted.of_reset hno ht
    have hticks : t.obs.ticks = tr.count .tick := hbooks.ticks.trans (Nat.zero_add _)
    rw [← hticks] at hbooks
    exact ⟨t, ht, hticks, hbooks.acc_eq, hbooks.fires_eq.trans (Nat.zero_add _)⟩

/-- Settles O38: the books at the fire say that the ticked time has just reached `I`, or the next multiple of `I` after
reset. -/
theorem fireSpacing : Obligations.FireSpacing := by
  refine ⟨fun s t u tr hs hfree h hquiet hu hcount => ?_, fun d t u tr hno h hu hcount => ?_, fun s hTI hacc => ?_⟩
  · obtain ⟨-, hT, -, -⟩ := s.device.property
    have hbooks := Accounted.of_trace (lt_of_lt_of_le hs hT) hfree h
    obtain rfl := (does_of_runEvent hu).eq_tick
    have hfire := State.fires_of_count hcount
    obtain ⟨hbefore, hreach⟩ := hbooks.first_reach hquiet hfire
    have hone := Nat.add_one_mul (tr.count .tick) s.cfg.T
    refine ⟨floorDiv_or_ceilDiv_of_first_reach hs hbefore hreach, fun hzero => ?_, by omega,
      hbooks.acc_lt_period_of_fire hfire⟩
    exact (ceilDiv_eq_of_first_reach (by omega) (by omega)).symm
  · have hbooks := Accounted.of_reset hno h
    obtain rfl := (does_of_runEvent hu).eq_tick
    have hlt : _ < d.val.T := hbooks.acc_lt_period_of_fire (State.fires_of_count hcount)
    have hbalance := hbooks.then_tick.balance_of_reset
    omega
  · obtain ⟨hpos, -, -, -⟩ := s.device.property
    have hlt : s.acc < s.cfg.I := by rw [hacc, ← hTI]; exact hpos
    have hfire : s.fires = true := (State.fires_iff_of_acc_lt hlt).mpr (by omega)
    have hzero : s.accumulate.acc = 0 := by rw [State.accumulate_acc_of_fires hlt hfire]; omega
    exact ⟨_, runEvent_tick_eq s, by simpa using hzero, by simp [hfire]⟩

/-- Settles O35: the two arms of a TICK, neither of which wraps; along a trace by the invariants. -/
theorem tickNeverWraps : Obligations.TickNeverWraps := by
  refine ⟨fun s hs => ⟨State.acc_add_period_lt_width hs, s.accumulate.wake, rfl, ?_, fun hlt => ?_, fun hle => ?_⟩,
    fun d tr => ?_, fun c hW hI hBW hcycles hpos hT => ?_⟩
  · simpa using State.accumulate_acc_lt_interval hs
  · have hquiet := (State.not_fires_iff_of_acc_lt hs).mpr hlt
    exact ⟨by simpa using State.accumulate_acc_of_not_fires hs hquiet, by simp [hquiet], by simp [hquiet]⟩
  · have hfire := (State.fires_iff_of_acc_lt hs).mpr hle
    exact ⟨by simpa using State.accumulate_acc_of_fires hs hfire,
      by simpa using State.accumulate_acc_lt_of_fires hs hfire, by simp [hfire], by simp [hfire]⟩
  · obtain ⟨t, ht, hacc, -⟩ := (State.initial_inv d).trace_answers tr
    rw [State.cfg, runTrace_device ht] at hacc
    exact ⟨t, ht, hacc⟩
  · exact ⟨hpos, hT, by rw [hW]; omega, by rw [hBW, hcycles]; decide⟩

/-- Settles O37: the books from reset, with `0 <= acc < I`. -/
theorem rateConvergence : Obligations.RateConvergence := by
  intro d tr hno
  obtain ⟨t, ht, -⟩ := (State.initial_inv d).trace_answers tr
  have hbooks := Accounted.of_reset hno ht
  have hlt : t.acc < d.val.I := hbooks.acc_lt
  have hbalance := hbooks.balance_of_reset
  have hone := Nat.add_one_mul t.obs.fires d.val.I
  exact ⟨t, ht, by omega, by omega⟩

/-- Settles O39: the flag is no operand of either case of a TICK; the fire writes it, the other case keeps it. -/
theorem fireOnSetFlag : Obligations.FireOnSetFlag := by
  intro s t h
  cases does_of_runEvent h with
  | reset he => cases he
  | tickQuiet hf =>
    exact ⟨fun hcount => absurd hcount (Nat.succ_ne_self _).symm,
      fun _ => ⟨rfl, runEvent_of_does (.tickQuiet (s := { s with pulse_req := true }) hf)⟩, .inr rfl⟩
  | tickFire hf =>
    exact ⟨fun _ => ⟨rfl, runEvent_of_does (.tickFire (s := { s with pulse_req := true }) hf)⟩,
      fun hcount => absurd hcount (Nat.succ_ne_self _), .inl rfl⟩

/-- Settles O8: the decoder reads the event field first; then the two arms of a TICK. -/
theorem tickOperation : Obligations.TickOperation := by
  refine ⟨fun sel hsel => ?_, fun s => ?_⟩
  · have hevent : eventField sel = .tick := congrArg Event.ofCode hsel
    rw [decode, hevent]
  · by_cases hle : s.cfg.I ≤ (s.acc + s.cfg.T) % 2 ^ s.cfg.W
    · have hfire : s.fires = true := s.fires_eq_true_iff.mpr hle
      simp only [if_pos hle]
      exact execTick_fire hfire
    · have hquiet : s.fires = false := Bool.eq_false_iff.mpr (mt s.fires_eq_true_iff.mp hle)
      simp only [if_neg hle]
      exact execTick_quiet hquiet

end Sys2Proof.Machine
end

section
/-! Proofs of the obligations on the sequencer's operations, one by one, and on its table of control transfers
(41_motor_sequencer R130 to R144, R152, R157; 30_encoding R80, R88). -/

namespace Sys2Proof

/-- A selector whose upper five bits are those of a STEP in the state `q` decodes as one, whatever its phase field
(30_encoding R83, R84). -/
theorem decode_of_upperBits {sel : Selector} (q : Seq) (h : sel.extractLsb' 3 5 = Event.step.code ++ q.code) :
    decode sel = decodeStep q (phaseField sel) := by
  have hsel : selector .step q (phaseField sel) = sel := by
    rw [selector, ← h, phaseField]
    exact BitVec.extractLsb'_append_extractLsb'
  exact (congrArg decode hsel).symm.trans (decode_selector .step q _)

end Sys2Proof

namespace Sys2Proof.Machine

/-- Settles O5: the decoder on the selector of an event (`decode_selector`), state by state. -/
theorem dispatchByState : Obligations.DispatchByState := by
  intro p
  refine ⟨fun q => ⟨decode_selector .rst q p, decode_selector .rstTick q p, decode_selector .tick q p⟩,
    decode_selector .step .S_BOOT p, ?_, ?_, ?_, ?_, ?_, ?_, fun hp => ?_,
    fun hp => ⟨?_, ?_⟩, decode_selector .step .S_NEUTRAL p, decode_selector .step .S_SLEEP p,
    decode_selector .step .S_CHECK p, decode_selector .step .S_CLEAR p, decode_selector .step .S_DOZE p⟩
  · rintro rfl; rfl
  · rintro rfl; rfl
  · rintro rfl; rfl
  · rintro rfl; rfl
  · rintro rfl; rfl
  · rintro rfl; rfl
  · exact (decode_selector .step .S_HOLD p).trans (if_pos hp)
  · exact (decode_selector_eq_error_iff _ _ _).mpr ⟨rfl, .inl rfl, hp⟩
  · exact (decode_selector_eq_error_iff _ _ _).mpr ⟨rfl, .inr rfl, hp⟩

/-! ### The operations -/

/-- Settles O9: the two arms of BOOTNEXT. -/
theorem bootnextOperation : Obligations.BootnextOperation :=
  ⟨fun _ h => decode_of_upperBits .S_BOOT h, fun _ hb => congrArg _ (if_pos hb), fun _ hb => congrArg _ (if_neg hb)⟩

/-- Settles O10: index by index, `State.applyPhase`. -/
theorem phaseApplicationOperations : Obligations.PhaseApplicationOperations := by
  intro k i hi
  fin_cases k <;> cases hi <;> exact ⟨rfl, fun _ => rfl⟩

/-- Settles O11: the three arms of HOLDEND. -/
theorem holdendOperation : Obligations.HoldendOperation := by
  refine ⟨fun p hp => ?_, fun s h5 => if_pos h5, fun s hlt => ?_, fun s hgt => ?_⟩
  · exact (decode_selector .step .S_HOLD p).trans (if_pos hp)
  · exact (if_neg (BitVec.ne_of_lt hlt)).trans (if_pos hlt)
  · have hne : s.phase ≠ 5#3 := (BitVec.ne_of_lt hgt).symm
    have hnlt : ¬ s.phase < 5#3 := by bv_omega
    exact (if_neg hne).trans (if_neg hnlt)

/-- S_NEUTRAL is entered by the HOLDEND of index 5 only (41_motor_sequencer R140, R152). -/
theorem Does.entered_neutral {e : Event} {s t : State} (h : Does s e t) (ht : t.seq = .S_NEUTRAL)
    (hs : s.seq ≠ .S_NEUTRAL) : e = .step ∧ s.seq = .S_HOLD ∧ s.phase = 5#3 := by
  cases h with
  | holdLast hq hp => exact ⟨rfl, hq, hp⟩
  | tickQuiet hf => exact absurd (State.seq_of_wake (by decide) ((State.wake_seq s).trans ht)) hs
  | tickFire hf => exact absurd (State.seq_of_wake (by decide) ((State.wake_seq s).trans ht)) hs
  | wait hq => exact absurd ht hs
  | neutral hq => exact absurd hq hs
  | check hq => cases hr : s.pulse_req <;> simp [hr] at ht
  | _ => cases ht

/-- Settles O12: the operation, and `Does.entered_neutral`. -/
theorem neutralOperation : Obligations.NeutralOperation :=
  ⟨fun _ h => decode_of_upperBits .S_NEUTRAL h, fun _ => rfl, fun _ _ _ h => (does_of_runEvent h).entered_neutral⟩

/-- Settles O13: a STEP of S_SLEEP is WAIT, and the wake of a TICK leaves S_SLEEP. -/
theorem waitOperation : Obligations.WaitOperation := by
  refine ⟨fun _ h => decode_of_upperBits .S_SLEEP h, fun _ => rfl, fun s hq => ⟨runEvent_step_sleep hq, ?_⟩⟩
  exact ⟨s.accumulate.wake, runEvent_tick_eq s, by simp [hq]⟩

/-- S_CHECK is entered by the wake and left by any STEP (41_motor_sequencer R142, R152). -/
theorem Does.entered_check {e : Event} {s t : State} (h : Does s e t) (ht : t.seq = .S_CHECK) :
    e = .tick ∧ (s.seq = .S_SLEEP ∨ s.seq = .S_CHECK) := by
  have hwake (hw : (if s.seq = .S_SLEEP then Seq.S_CHECK else s.seq) = .S_CHECK) :
      s.seq = .S_SLEEP ∨ s.seq = .S_CHECK := by
    by_cases hq : s.seq = .S_SLEEP
    · exact .inl hq
    · exact .inr ((if_neg hq).symm.trans hw)
  cases h with
  | tickQuiet hf => exact ⟨rfl, hwake ht⟩
  | tickFire hf => exact ⟨rfl, hwake ht⟩
  | wait hq => rw [hq] at ht; cases ht
  | neutral hq => cases hb : s.booting <;> simp [hb] at ht
  | check hq => cases hr : s.pulse_req <;> simp [hr] at ht
  | _ => cases ht

/-- Settles O14: the operation, and `Does.entered_check`. -/
theorem checkOperation : Obligations.CheckOperation :=
  ⟨fun _ h => decode_of_upperBits .S_CHECK h, fun _ => rfl, fun _ _ _ h => (does_of_runEvent h).entered_check⟩

/-- Settles O15: CLEAR writes the record out. -/
theorem clearOperation : Obligations.ClearOperation :=
  ⟨fun _ h => decode_of_upperBits .S_CLEAR h, fun _ => rfl⟩

/-- S_DOZE is entered by BOOTNEXT, NEUTRAL and CHECK, each with the startup phase over and the index at 0
(41_motor_sequencer R157). -/
theorem Does.entered_doze {e : Event} {s t : State} (h : Does s e t) (hinv : s.Inv) (hs : s.seq ≠ .S_DOZE)
    (ht : t.seq = .S_DOZE) :
    e = .step ∧ (s.seq = .S_BOOT ∨ s.seq = .S_NEUTRAL ∨ s.seq = .S_CHECK) ∧ t.phase = 0#3 ∧ t.booting = false := by
  obtain ⟨-, -, -, -, hrest, hboot, -⟩ := hinv
  cases h with
  | bootLast hq hb =>
    obtain ⟨-, hp⟩ := hboot hq
    exact ⟨rfl, .inl hq, hp, rfl⟩
  | neutral hq =>
    cases hb : s.booting with
    | true => simp [hb] at ht
    | false => exact ⟨rfl, .inr (.inl hq), rfl, rfl⟩
  | check hq =>
    obtain ⟨hb, hp⟩ := hrest (.inr (.inl hq))
    exact ⟨rfl, .inr (.inr hq), hp, hb⟩
  | tickQuiet hf => exact absurd (State.seq_of_wake (by decide) ((State.wake_seq s).trans ht)) hs
  | tickFire hf => exact absurd (State.seq_of_wake (by decide) ((State.wake_seq s).trans ht)) hs
  | wait hq => exact absurd ht hs
  | _ => cases ht

/-- Settles O16: the operation, the wake that passes S_DOZE by, and `Does.entered_doze`. -/
theorem sleepOperation : Obligations.SleepOperation :=
  ⟨fun _ h => decode_of_upperBits .S_DOZE h, fun _ => rfl,
    fun s hq => ⟨s.accumulate.wake, runEvent_tick_eq s, by simp [hq]⟩,
    fun _ _ _ hinv h => (does_of_runEvent h).entered_doze hinv⟩

/-! ### The table of control transfers -/

/-- A TICK that finds the sequencer asleep wakes it and writes what the accumulator writes (41_motor_sequencer R152). -/
theorem State.tick_of_sleep {s : State} (hq : s.seq = .S_SLEEP) :
    s.accumulate.wake = { s with
      seq := .S_CHECK, acc := s.accumulate.wake.acc, pulse_req := s.accumulate.wake.pulse_req,
      obs := s.accumulate.wake.obs } := by
  rw [State.wake_of_sleep (by simpa using hq), State.accumulate_eq]
  rfl

/-- A TICK that finds it awake makes the accumulator's writes only. -/
theorem State.tick_of_not_sleep {s : State} (hq : s.seq ≠ .S_SLEEP) :
    s.accumulate.wake = { s with
      acc := s.accumulate.wake.acc, pulse_req := s.accumulate.wake.pulse_req, obs := s.accumulate.wake.obs } := by
  rw [State.wake_of_not_sleep (by simpa using hq), State.accumulate_eq]

/-- Settles O17: each row is a case of `Does`; the last two are the TICK. -/
theorem controlTransferTable : Obligations.ControlTransferTable := by
  refine ⟨fun e s he => runEvent_of_does (.reset he),
    fun s hq hpos => runEvent_of_does (.bootCycle hq hpos.ne'),
    fun s hq hb => runEvent_of_does (.bootLast hq hb),
    fun s k hq hp => runEvent_of_does (.apply k hq hp),
    fun s hq hp => runEvent_of_does (.holdNext hq hp),
    fun s hq hp => runEvent_of_does (.holdLast hq hp),
    fun s hq hb => ?_, fun s hq hb => ?_, fun s hq hr => ?_, fun s hq hr => ?_,
    fun s hq => runEvent_of_does (.clear hq),
    fun s hq => runEvent_of_does (.sleep hq),
    fun s hq => ⟨s.accumulate.wake, runEvent_tick_eq s, rfl, s.tick_of_sleep hq⟩,
    fun s hq => ⟨s.accumulate.wake, runEvent_tick_eq s, rfl, s.tick_of_not_sleep hq⟩⟩
  · simpa [hb] using runEvent_of_does (.neutral hq)
  · simpa [hb] using runEvent_of_does (.neutral hq)
  · simpa [hr] using runEvent_of_does (.check hq)
  · simpa [hr] using runEvent_of_does (.check hq)

end Sys2Proof.Machine
end

section
/-! Support for the proofs about the sequencer (41_motor_sequencer): the position in a cycle, the STEPs that advance it,
and what all the events that fall in one cycle share. -/

namespace Sys2Proof

/-- The operations of a full cycle, in order (41_motor_sequencer R145). -/
def cycleOps : List Instr :=
  [.ph0, .holdend, .ph1, .holdend, .ph2, .holdend, .ph3, .holdend, .ph4, .holdend, .ph5, .holdend, .neutral]

/-- The codes a full cycle writes to the port, in order (41_motor_sequencer R145). -/
def Config.cycleCodes (c : Config) : List Code :=
  [c.PT[0], c.PT[1], c.PT[2], c.PT[3], c.PT[4], c.PT[5], c.NEUTRAL]

/-- How many STEPs of its cycle the sequencer has performed; outside a cycle, all thirteen. -/
def cyclePosition : Seq → Code → Nat
  | .S_APPLY, p => 2 * p.toNat
  | .S_HOLD, p => 2 * p.toNat + 1
  | .S_NEUTRAL, _ => 12
  | _, _ => 13

/-- Entry `k` of the table is write number `k` of a cycle. -/
theorem Config.drop_cycleCodes (c : Config) (k : Fin 6) :
    c.cycleCodes.drop k = c.PT[k] :: c.cycleCodes.drop (k + 1) := by
  fin_cases k <;> rfl

theorem toNat_phaseIndex (k : Fin 6) : (BitVec.ofNat 3 k).toNat = k := by
  revert k; decide

theorem toNat_phase_succ {p : Code} (hp : p < 5#3) : (p + 1#3).toNat = p.toNat + 1 := by bv_omega

/-- The wake is no move in a cycle. -/
theorem cyclePosition_wake (q : Seq) (p : Code) :
    cyclePosition (if q = .S_SLEEP then .S_CHECK else q) p = cyclePosition q p := by
  cases q <;> rfl

end Sys2Proof

namespace Sys2Proof.Machine

/-! ### The operations the STEPs of a trace perform -/

theorem stepOps_step {s t : State} {i : Instr} (hd : decodeStep s.seq s.phase = .ok i)
    (h : runEvent .step s = .next t) (es : List Event) : stepOps (.step :: es) s = i :: stepOps es t := by
  simp [stepOps, State.selector, decode_selector, hd, h, Except.toOption]

theorem stepOps_tick (s : State) (es : List Event) : stepOps (.tick :: es) s = stepOps es s.accumulate.wake := by
  simp only [stepOps, runEvent_tick_eq]
  rfl

/-! ### The position in a cycle -/

/-- In a cycle: from a phase application to come to the neutral write to come. -/
abbrev State.InCycle (s : State) : Prop := s.seq = .S_APPLY ∨ s.seq = .S_HOLD ∨ s.seq = .S_NEUTRAL

def State.position (s : State) : Nat := cyclePosition s.seq s.phase

/-- How many of its port writes the cycle has made. -/
def State.writesMade (s : State) : Nat := (s.position + 1) / 2

/-- The codes the cycle has still to write. -/
def State.codesLeft (s : State) : List Code := s.cfg.cycleCodes.drop s.writesMade

/-- The phase applications the cycle has still to make: one per write, but for the neutral one. -/
def State.appliesLeft (s : State) : Nat := 6 - s.writesMade

section
variable {s : State}

theorem State.position_of_apply (h : s.seq = .S_APPLY) : s.position = 2 * s.phase.toNat := by
  rw [State.position, h, cyclePosition]

theorem State.position_of_hold (h : s.seq = .S_HOLD) : s.position = 2 * s.phase.toNat + 1 := by
  rw [State.position, h, cyclePosition]

theorem State.position_of_neutral (h : s.seq = .S_NEUTRAL) : s.position = 12 := by
  rw [State.position, h, cyclePosition]

theorem State.position_of_rest (h : ¬ s.InCycle) : s.position = 13 := by
  rw [State.position]
  cases hq : s.seq with
  | S_APPLY => exact absurd (.inl hq) h
  | S_HOLD => exact absurd (.inr (.inl hq)) h
  | S_NEUTRAL => exact absurd (.inr (.inr hq)) h
  | _ => rfl

/-- In a cycle not all thirteen STEPs are done. -/
theorem State.position_lt_of_inCycle (h : s.InCycle) (hp : s.phase ≤ 5#3) : s.position < 13 := by
  have : s.phase.toNat ≤ 5 := hp
  rcases h with h | h | h
  · rw [State.position_of_apply h]; omega
  · rw [State.position_of_hold h]; omega
  · rw [State.position_of_neutral h]; omega

/-- The whole cycle is still to come at its start. -/
theorem State.position_of_start (h : s.seq = .S_APPLY) (hp : s.phase = 0#3) : s.position = 0 := by
  rw [State.position_of_apply h, hp]; rfl

theorem State.codesLeft_of_rest (h : ¬ s.InCycle) : s.codesLeft = [] := by
  rw [State.codesLeft, State.writesMade, State.position_of_rest h]; rfl

theorem State.appliesLeft_of_rest (h : ¬ s.InCycle) : s.appliesLeft = 0 := by
  rw [State.appliesLeft, State.writesMade, State.position_of_rest h]

theorem State.codesLeft_of_start (h : s.seq = .S_APPLY) (hp : s.phase = 0#3) : s.codesLeft = s.cfg.cycleCodes := by
  rw [State.codesLeft, State.writesMade, State.position_of_start h hp]; rfl

theorem State.appliesLeft_of_start (h : s.seq = .S_APPLY) (hp : s.phase = 0#3) : s.appliesLeft = 6 := by
  rw [State.appliesLeft, State.writesMade, State.position_of_start h hp]

end

/-- As NEUTRAL leaves the sequencer (41_motor_sequencer R141). -/
abbrev State.CycleDone (s : State) : Prop :=
  s.seq = (if s.booting = true then .S_BOOT else .S_DOZE) ∧ s.phase = 0#3 ∧ s.pins = s.cfg.NEUTRAL

theorem State.CycleDone.not_inCycle {s : State} (h : s.CycleDone) : ¬ s.InCycle := by
  obtain ⟨hq, -, -⟩ := h
  cases hb : s.booting <;> simp [State.InCycle, hq, hb]

@[simp] theorem State.position_tick (s : State) : s.accumulate.wake.position = s.position := by
  simpa [State.position] using cyclePosition_wake s.seq s.phase

/-- A STEP of a cycle advances the position by one (41_motor_sequencer R133, R140, R141). -/
theorem Does.position_succ {s t : State} (h : Does s .step t) (hc : s.InCycle) : t.position = s.position + 1 := by
  cases h with
  | reset he => cases he
  | apply k hq hp => rw [State.position_of_apply hq]; rfl
  | holdLast hq hp => rw [State.position_of_hold hq, hp]; rfl
  | holdNext hq hp =>
    rw [State.position_of_hold hq, State.position_of_apply rfl, toNat_phase_succ hp]; rfl
  | neutral hq => rw [State.position_of_neutral hq]; exact State.position_of_rest (State.CycleDone.not_inCycle ⟨rfl, rfl, rfl⟩)
  | _ => simp [State.InCycle, *] at hc

/-- The operation of a STEP in a cycle is the one at the cycle's position (41_motor_sequencer R131, R145). -/
theorem State.decodeStep_inCycle {s : State} (hc : s.InCycle) (hp : s.phase ≤ 5#3) :
    ∃ i, decodeStep s.seq s.phase = .ok i ∧ cycleOps.drop s.position = i :: cycleOps.drop (s.position + 1) := by
  obtain ⟨k, hk⟩ := phase_index hp
  rcases hc with hq | hq | hq
  · rw [State.position_of_apply hq, hq, hk]
    fin_cases k <;> exact ⟨_, rfl, rfl⟩
  · rw [State.position_of_hold hq, hq, hk]
    fin_cases k <;> exact ⟨_, rfl, rfl⟩
  · rw [State.position_of_neutral hq, hq]
    exact ⟨_, rfl, rfl⟩

/-! ### What the events of one cycle share -/

/-- What stays the same from `s` to `t` while no cycle begins: how many were begun, and the port writes and the phase
applications, each with those the cycle in progress has still to make. -/
structure SameCycle (s t : State) : Prop where
  device : t.device = s.device
  boot_left : t.boot_left = s.boot_left
  clears : t.obs.clears = s.obs.clears
  codes : t.obs.pin_trace ++ t.codesLeft = s.obs.pin_trace ++ s.codesLeft
  applies : t.obs.applies + t.appliesLeft = s.obs.applies + s.appliesLeft

theorem SameCycle.refl (s : State) : SameCycle s s := ⟨rfl, rfl, rfl, rfl, rfl⟩

theorem SameCycle.trans {s u t : State} (hsu : SameCycle s u) (hut : SameCycle u t) : SameCycle s t where
  device := hut.device.trans hsu.device
  boot_left := hut.boot_left.trans hsu.boot_left
  clears := hut.clears.trans hsu.clears
  codes := hut.codes.trans hsu.codes
  applies := hut.applies.trans hsu.applies

theorem SameCycle.cfg {s t : State} (h : SameCycle s t) : t.cfg = s.cfg := congrArg Subtype.val h.device

/-- An event that writes no code: the cycle has as many still to write. -/
theorem SameCycle.of_no_write {s t : State} (hdevice : t.device = s.device) (hleft : t.boot_left = s.boot_left)
    (hclears : t.obs.clears = s.obs.clears) (htrace : t.obs.pin_trace = s.obs.pin_trace)
    (happlies : t.obs.applies = s.obs.applies) (hw : t.writesMade = s.writesMade) : SameCycle s t where
  device := hdevice
  boot_left := hleft
  clears := hclears
  codes := by rw [State.codesLeft, State.codesLeft, State.cfg, State.cfg, hdevice, hw, htrace]
  applies := by rw [State.appliesLeft, State.appliesLeft, hw, happlies]

theorem SameCycle.of_tick (s : State) : SameCycle s s.accumulate.wake := by
  refine .of_no_write ?_ ?_ ?_ ?_ ?_ ?_ <;> simp [State.writesMade]

/-- An event that writes the code `v`, the cycle's write number `n`. -/
theorem SameCycle.of_write {s t : State} {n : Nat} {v : Code} (hdevice : t.device = s.device)
    (hleft : t.boot_left = s.boot_left) (hclears : t.obs.clears = s.obs.clears)
    (htrace : t.obs.pin_trace = s.obs.pin_trace ++ [v]) (hs : s.writesMade = n) (ht : t.writesMade = n + 1)
    (hcode : s.cfg.cycleCodes.drop n = v :: s.cfg.cycleCodes.drop (n + 1))
    (happlies : t.obs.applies + (6 - (n + 1)) = s.obs.applies + (6 - n)) : SameCycle s t where
  device := hdevice
  boot_left := hleft
  clears := hclears
  codes := by
    rw [State.codesLeft, State.codesLeft, State.cfg, State.cfg, hdevice, hs, ht, hcode, htrace, List.append_assoc,
      List.singleton_append]
  applies := by rw [State.appliesLeft, State.appliesLeft, hs, ht, happlies]

/-- A STEP of a cycle makes the write that was first to come, or none. -/
theorem SameCycle.of_step {s t : State} (h : Does s .step t) (hc : s.InCycle) : SameCycle s t := by
  have hmade : t.writesMade = (s.position + 2) / 2 := by rw [State.writesMade, h.position_succ hc]
  cases h with
  | reset he => cases he
  | apply k hq hp =>
    have hpos : s.position = 2 * k := by rw [State.position_of_apply hq, hp, toNat_phaseIndex]
    exact .of_write (n := k) rfl rfl rfl rfl (by rw [State.writesMade, hpos]; omega) (hmade.trans (by omega))
      (s.cfg.drop_cycleCodes k) (by simp only; omega)
  | holdLast hq hp =>
    refine .of_no_write rfl rfl rfl rfl rfl (hmade.trans ?_)
    rw [State.writesMade, State.position_of_hold hq]; omega
  | holdNext hq hp =>
    refine .of_no_write rfl rfl rfl rfl rfl (hmade.trans ?_)
    rw [State.writesMade, State.position_of_hold hq]; omega
  | neutral hq =>
    have hpos := State.position_of_neutral hq
    exact .of_write (n := 6) rfl rfl rfl rfl (by rw [State.writesMade, hpos]) (hmade.trans (by rw [hpos])) rfl rfl
  | _ => simp [State.InCycle, *] at hc

end Sys2Proof.Machine
end

section
/-! Proof of the obligation on one full cycle (41_motor_sequencer R145). -/

namespace Sys2Proof.Machine

/-- A TICK moves nothing of a sequencer that is in a cycle or has just ended one (41_motor_sequencer R154). -/
theorem State.CycleDone.after_tick {s : State} (h : s.CycleDone) : s.accumulate.wake.CycleDone := by
  obtain ⟨hq, hp, hpins⟩ := h
  refine ⟨?_, by simpa using hp, by simpa using hpins⟩
  cases hb : s.booting <;> simp [hq, hb]

theorem State.InCycle.after_tick {s : State} (h : s.InCycle) : s.accumulate.wake.InCycle := by
  rcases h with h | h | h <;> simp [State.InCycle, h]

/-- A STEP of a cycle leads to its next position, or ends it (41_motor_sequencer R133, R140, R141). -/
theorem Does.inCycle_or_done {s t : State} (h : Does s .step t) (hc : s.InCycle) (hp : s.phase ≤ 5#3) :
    t.InCycle ∧ t.phase ≤ 5#3 ∨ t.CycleDone := by
  cases h with
  | reset he => cases he
  | apply k hq hk => exact .inl ⟨.inr (.inl rfl), hp⟩
  | holdLast hq h5 => exact .inl ⟨.inr (.inr rfl), hp⟩
  | holdNext hq h5 => exact .inl ⟨.inl rfl, by bv_omega⟩
  | neutral hq => exact .inr ⟨rfl, rfl, rfl⟩
  | _ => simp [State.InCycle, *] at hc

/-- No STEP of a cycle ends the startup phase (10_state R26). -/
theorem Does.booting_inCycle {s t : State} (h : Does s .step t) (hc : s.InCycle) : t.booting = s.booting := by
  obtain ⟨-, hkept | ⟨-, hboot, -⟩⟩ := startupRunsOnce .step s t rfl (runEvent_of_does h)
  · exact hkept
  · simp [State.InCycle, hboot] at hc

/-- The rest of a cycle, whatever TICKs fall in it: the operations from the cycle's position on, its end, and what it
shares with the state it goes on from. -/
theorem run_to_cycleDone {tr : List Event} {s : State} (hs : s.InCycle ∧ s.phase ≤ 5#3 ∨ s.CycleDone)
    (hfree : RstFree tr) (hcount : s.position + tr.count .step = 13) :
    stepOps tr s = cycleOps.drop s.position ∧
      ∃ t, runTrace tr s = .next t ∧ t.CycleDone ∧ SameCycle s t ∧ t.booting = s.booting := by
  induction tr generalizing s with
  | nil =>
    have hpos : s.position = 13 := hcount
    rcases hs with ⟨hc, hp⟩ | hdone
    · exact absurd hpos (State.position_lt_of_inCycle hc hp).ne
    · rw [hpos]
      exact ⟨rfl, s, rfl, hdone, .refl s, rfl⟩
  | cons e es ih =>
    obtain ⟨he, hes⟩ := List.forall_mem_cons.mp hfree
    cases e with
    | rst => cases he
    | rstTick => cases he
    | tick =>
      have hu : s.accumulate.wake.InCycle ∧ s.accumulate.wake.phase ≤ 5#3 ∨ s.accumulate.wake.CycleDone :=
        hs.imp (fun ⟨hc, hp⟩ => ⟨hc.after_tick, by simpa using hp⟩) State.CycleDone.after_tick
      obtain ⟨hops, t, ht, hdone, hsame, hbooting⟩ := ih hu hes (by simpa using hcount)
      refine ⟨?_, t, ?_, hdone, (SameCycle.of_tick s).trans hsame, by simpa using hbooting⟩
      · rw [stepOps_tick, hops, State.position_tick]
      · rw [runTrace_cons, runEvent_tick_eq, andThen_next, ht]
    | step =>
      rw [List.count_cons_self] at hcount
      rcases hs with ⟨hc, hp⟩ | hdone
      · obtain ⟨i, hi, hdrop⟩ := State.decodeStep_inCycle hc hp
        rcases runEvent_answers .step s with ⟨u, hu⟩ | ⟨-, -, hp', -⟩
        · have hpos := hu.position_succ hc
          obtain ⟨hops, t, ht, hdone, hsame, hbooting⟩ := ih (hu.inCycle_or_done hc hp) hes (by omega)
          refine ⟨?_, t, ?_, hdone, (SameCycle.of_step hu hc).trans hsame, hbooting.trans (hu.booting_inCycle hc)⟩
          · rw [stepOps_step hi (runEvent_of_does hu), hops, hpos, hdrop]
          · rw [runTrace_cons, runEvent_of_does hu, andThen_next, ht]
        · exact absurd hp hp'
      · have := State.position_of_rest hdone.not_inCycle
        omega

/-- Settles O40: the run from position 0 to the end of the cycle; what is written and applied by then is what was still
to come at its start. -/
theorem fullCycle : Obligations.FullCycle := by
  intro s tr hq hp hfree hcount
  have hpos := State.position_of_start hq hp
  obtain ⟨hops, t, ht, hdone, hsame, hbooting⟩ :=
    run_to_cycleDone (.inl ⟨.inl hq, hp ▸ zero_phase_le⟩) hfree (by rw [hpos, hcount])
  have hrest := hdone.not_inCycle
  obtain ⟨hseq, hphase, hpins⟩ := hdone
  have happlies := hsame.applies
  have hcodes := hsame.codes
  rw [State.appliesLeft_of_rest hrest, State.appliesLeft_of_start hq hp] at happlies
  rw [State.codesLeft_of_rest hrest, State.codesLeft_of_start hq hp, List.append_nil] at hcodes
  rw [hpos] at hops
  exact ⟨hops, t, ht, hphase, hsame.cfg ▸ hpins, hbooting ▸ hseq, hbooting, hsame.boot_left, happlies, hcodes⟩

end Sys2Proof.Machine
end

section
/-! Proofs of the obligations on the port writes of a run and on what the lines show (41_motor_sequencer R134 to R141,
R156). -/

namespace Sys2Proof

theorem Config.getElem?_cycleCodes (c : Config) (k : Fin 6) : c.cycleCodes[k.val]? = some c.PT[k] := by
  fin_cases k <;> rfl

/-- An entry of a list repeated is the list's entry at the same place. -/
theorem getElem?_of_flatten_replicate {α : Type} {l : List α} {v : α} {n j : Nat}
    (h : (List.replicate n l).flatten[j]? = some v) : l[j % l.length]? = some v := by
  induction n generalizing j with
  | zero => simp at h
  | succ n ih =>
    rw [List.replicate_succ, List.flatten_cons] at h
    by_cases hj : j < l.length
    · rwa [List.getElem?_append_left hj, ← Nat.mod_eq_of_lt hj] at h
    · rw [List.getElem?_append_right (Nat.le_of_not_lt hj)] at h
      rw [Nat.mod_eq_sub_mod (Nat.le_of_not_lt hj)]
      exact ih h

end Sys2Proof

namespace Sys2Proof.Machine

/-! ### The cycles on the books -/

/-- The cycles begun: the startup cycles used up, and one per CLEAR (41_motor_sequencer R132, R143). -/
def State.cyclesBegun (s : State) : Nat := s.cfg.STARTUP_CYCLES - s.boot_left + s.obs.clears

/-- The port writes and the phase applications, with those the cycle in progress has still to make, are those of the
cycles begun (41_motor_sequencer R145, R156). -/
structure State.CyclesOnBooks (s : State) : Prop where
  codes : s.obs.pin_trace ++ s.codesLeft = (List.replicate s.cyclesBegun s.cfg.cycleCodes).flatten
  applies : s.obs.applies + s.appliesLeft = 6 * s.cyclesBegun

/-- No cycle is begun at reset, and none is in progress. -/
theorem State.AtReset.cyclesOnBooks {s : State} (h : s.AtReset) : s.CyclesOnBooks := by
  rw [h]
  have hbegun : State.cyclesBegun { State.initial s.device with events := s.events, drawn := s.drawn } = 0 :=
    Nat.sub_self _
  constructor
  · rw [hbegun, State.codesLeft_of_rest (by simp [State.InCycle, State.initial])]; rfl
  · rw [hbegun, State.appliesLeft_of_rest (by simp [State.InCycle, State.initial])]; rfl

/-- Whether a STEP begins a cycle, by the model's two counts. -/
abbrev beginsCycle (e : Event) (s : State) : Prop := beginsStartupCycle e s = true ∨ beginsRequestedCycle e s = true

/-- Outside a cycle nothing is to come of one, before and after an event that begins none. -/
theorem SameCycle.of_rest {s t : State} (hs : ¬ s.InCycle) (ht : ¬ t.InCycle) (hdevice : t.device = s.device)
    (hleft : t.boot_left = s.boot_left) (hobs : t.obs = s.obs) : SameCycle s t := by
  refine .of_no_write hdevice hleft ?_ ?_ ?_ ?_
  · rw [hobs]
  · rw [hobs]
  · rw [hobs]
  · rw [State.writesMade, State.writesMade, State.position_of_rest hs, State.position_of_rest ht]

/-- Every event but an RST goes on with the cycle in progress, if any, or begins one. -/
theorem SameCycle.of_not_begins {e : Event} {s t : State} (h : Does s e t) (he : e.isRst = false)
    (hb : ¬ beginsCycle e s) : SameCycle s t := by
  cases e with
  | rst => cases he
  | rstTick => cases he
  | tick => rw [h.eq_tick]; exact .of_tick s
  | step =>
    by_cases hc : s.InCycle
    · exact .of_step h hc
    · cases h with
      | reset he => cases he
      | bootLast hq hleft => exact .of_rest hc (by simp [State.InCycle]) rfl rfl rfl
      | bootCycle hq hleft => exact absurd (by simp [beginsCycle, beginsStartupCycle, hq, hleft]) hb
      | apply k hq hp => exact absurd (.inl hq) hc
      | holdLast hq hp => exact absurd (.inr (.inl hq)) hc
      | holdNext hq hp => exact absurd (.inr (.inl hq)) hc
      | neutral hq => exact absurd (.inr (.inr hq)) hc
      | wait hq => exact .refl s
      | check hq => exact .of_rest hc (by cases hr : s.pulse_req <;> simp [State.InCycle]) rfl rfl rfl
      | clear hq => exact absurd (by simp [beginsCycle, beginsRequestedCycle, hq]) hb
      | sleep hq => exact .of_rest hc (by simp [State.InCycle]) rfl rfl rfl

theorem SameCycle.cyclesOnBooks {s t : State} (h : SameCycle s t) (hs : s.CyclesOnBooks) : t.CyclesOnBooks := by
  have hbegun : t.cyclesBegun = s.cyclesBegun := by
    rw [State.cyclesBegun, State.cyclesBegun, h.cfg, h.boot_left, h.clears]
  constructor
  · rw [h.codes, hbegun, h.cfg, hs.codes]
  · rw [h.applies, hbegun, hs.applies]

/-- A cycle begun outside a cycle is one more on the books, all of it still to come. -/
theorem State.CyclesOnBooks.begin {s t : State} (hs : s.CyclesOnBooks) (hrest : ¬ s.InCycle) (hq : t.seq = .S_APPLY)
    (hp : t.phase = 0#3) (hdevice : t.device = s.device) (htrace : t.obs.pin_trace = s.obs.pin_trace)
    (happlies : t.obs.applies = s.obs.applies) (hbegun : t.cyclesBegun = s.cyclesBegun + 1) : t.CyclesOnBooks := by
  obtain ⟨hcodes, hdone⟩ := hs
  rw [State.codesLeft_of_rest hrest, List.append_nil] at hcodes
  rw [State.appliesLeft_of_rest hrest] at hdone
  constructor
  · rw [State.codesLeft_of_start hq hp, htrace, hcodes, hbegun, List.replicate_succ',
      List.flatten_append, List.flatten_singleton, State.cfg, State.cfg, hdevice]
  · rw [State.appliesLeft_of_start hq hp, happlies, hbegun]
    omega

/-- An RST leaves the reset state (70_reset_and_hazards R201). -/
theorem Does.atReset {e : Event} {s t : State} (h : Does s e t) (he : e.isRst = true) : t.AtReset := by
  cases h with
  | reset _ => rfl
  | _ => cases he

/-- Every event keeps the books of the cycles; `boot_left <= STARTUP_CYCLES` makes each BOOTNEXT count. -/
theorem Does.cyclesOnBooks {e : Event} {s t : State} (h : Does s e t) (hleft : s.boot_left ≤ s.cfg.STARTUP_CYCLES)
    (hs : s.CyclesOnBooks) : t.CyclesOnBooks := by
  cases he : e.isRst with
  | true => exact (h.atReset he).cyclesOnBooks
  | false =>
    by_cases hb : beginsCycle e s
    · cases h with
      | bootCycle hq hpos =>
        refine hs.begin (by simp [State.InCycle, hq]) rfl rfl rfl rfl rfl ?_
        show s.cfg.STARTUP_CYCLES - (s.boot_left - 1) + s.obs.clears = s.cyclesBegun + 1
        rw [State.cyclesBegun]
        omega
      | clear hq => exact hs.begin (by simp [State.InCycle, hq]) rfl rfl rfl rfl rfl (Nat.add_assoc _ _ _).symm
      | reset hrst => rw [he] at hrst; cases hrst
      | _ => simp [beginsCycle, beginsStartupCycle, beginsRequestedCycle, *] at hb
    · exact (SameCycle.of_not_begins h he hb).cyclesOnBooks hs

/-- Every trace from reset leaves the invariants and the books of the cycles. -/
theorem cyclesOnBooks_of_reset (d : WfConfig) (tr : List Event) :
    ∃ t, runTrace tr (State.initial d) = .next t ∧ t.Inv ∧ t.CyclesOnBooks := by
  refine runTrace_keeps (P := fun s => s.Inv ∧ s.CyclesOnBooks) (fun e s ⟨hinv, hbooks⟩ => ?_) tr
    ⟨State.initial_inv d, State.AtReset.cyclesOnBooks rfl⟩
  obtain ⟨t, ht, hinv'⟩ := hinv.event_answers e
  obtain ⟨-, -, hleft, -⟩ := hinv
  exact ⟨t, ht, hinv', (does_of_runEvent ht).cyclesOnBooks hleft hbooks⟩

/-- Settles O41: the writes made are the first ones of the cycles begun, and those repeat the seven codes of one. -/
theorem pinWriteTrace : Obligations.PinWriteTrace := by
  intro d tr _
  obtain ⟨t, ht, -, hbooks⟩ := cyclesOnBooks_of_reset d tr
  refine ⟨t, ht, fun j v hv => ?_⟩
  obtain ⟨hj, -⟩ := List.getElem?_eq_some_iff.mp hv
  have hmade : (t.obs.pin_trace ++ t.codesLeft)[j]? = some v := (List.getElem?_append_left hj).trans hv
  rw [hbooks.codes, State.cfg, runTrace_device ht] at hmade
  have hcode : d.val.cycleCodes[j % 7]? = some v := getElem?_of_flatten_replicate hmade
  constructor
  · intro k hk
    rw [hk, Config.getElem?_cycleCodes] at hcode
    exact (Option.some.inj hcode).symm
  · intro hk
    rw [hk] at hcode
    exact (Option.some.inj hcode).symm

/-! ### What the lines show -/

/-- Outside a cycle the lines have to show the neutral code, and that is all. -/
theorem State.PinsInv.of_rest {s : State} (hc : ¬ s.InCycle) (hpins : s.pins = s.cfg.NEUTRAL) : s.PinsInv :=
  ⟨fun hq => absurd (.inl hq) hc, fun hq => absurd (.inl hq) hc, fun hq => absurd (.inr (.inl hq)) hc,
    fun hq => absurd (.inr (.inr hq)) hc, fun _ _ _ => hpins⟩

theorem State.PinsInv.pins_of_rest {s : State} (h : s.PinsInv) (hc : ¬ s.InCycle) : s.pins = s.cfg.NEUTRAL := by
  obtain ⟨-, -, -, -, hrest⟩ := h
  exact hrest (fun hq => hc (.inl hq)) (fun hq => hc (.inr (.inl hq))) (fun hq => hc (.inr (.inr hq)))

/-- At the start of a cycle they still show it. -/
theorem State.PinsInv.of_start {s : State} (hq : s.seq = .S_APPLY) (hp : s.phase = 0#3)
    (hpins : s.pins = s.cfg.NEUTRAL) : s.PinsInv :=
  ⟨fun _ _ => hpins, fun _ hne => absurd hp hne, by simp [hq], by simp [hq], fun hne => absurd hq hne⟩

theorem State.AtReset.pinsInv {s : State} (h : s.AtReset) : s.PinsInv := by
  rw [h]
  exact .of_rest (by simp [State.InCycle, State.initial]) rfl

/-- A TICK moves no line, and moves the sequencer only outside a cycle. -/
theorem State.PinsInv.after_tick {s : State} (h : s.PinsInv) : s.accumulate.wake.PinsInv := by
  by_cases hq : s.seq = .S_SLEEP
  · have hpins := h.pins_of_rest (by simp [State.InCycle, hq])
    exact .of_rest (by simp [State.InCycle, hq]) (by simpa using hpins)
  · rw [State.wake_of_not_sleep (by simpa using hq)]
    simpa only [State.PinsInv, State.accumulate_seq, State.accumulate_phase, State.accumulate_pins,
      State.accumulate_cfg] using h

/-- A STEP shows the code it applies, or leaves the lines as the state it leads to has them: one case per row of
41_motor_sequencer R152. -/
theorem Does.step_pinsInv {s t : State} (h : Does s .step t) (hs : s.PinsInv) : t.PinsInv := by
  have ⟨_, _, hhold, _, _⟩ := hs
  cases h with
  | reset he => cases he
  | bootLast hq hb => exact .of_rest (by simp [State.InCycle]) (hs.pins_of_rest (by simp [State.InCycle, hq]))
  | bootCycle hq hb => exact .of_start rfl rfl (hs.pins_of_rest (by simp [State.InCycle, hq]))
  | apply k hq hp =>
    refine ⟨nofun, nofun, fun _ => ?_, nofun, by simp⟩
    show s.cfg.PT[s.phase.toNat]? = some s.cfg.PT[k]
    rw [hp, toNat_phaseIndex]
    exact Vector.getElem?_eq_getElem k.isLt
  | holdLast hq hp =>
    have hlast := hhold hq
    rw [hp] at hlast
    exact ⟨nofun, nofun, nofun, fun _ => (Option.some.inj hlast).symm, by simp⟩
  | holdNext hq hp =>
    have hsucc := toNat_phase_succ hp
    refine ⟨fun _ hzero => ?_, fun _ _ => ?_, nofun, nofun, by simp⟩
    · rw [show s.phase + 1#3 = 0#3 from hzero] at hsucc
      cases hsucc
    · show s.cfg.PT[(s.phase + 1#3).toNat - 1]? = some s.pins
      rw [hsucc]
      exact hhold hq
  | neutral hq => exact .of_rest (State.CycleDone.not_inCycle ⟨rfl, rfl, rfl⟩) rfl
  | wait hq => exact hs
  | check hq =>
    exact .of_rest (by cases hr : s.pulse_req <;> simp [State.InCycle])
      (hs.pins_of_rest (by simp [State.InCycle, hq]))
  | clear hq => exact .of_start rfl rfl (hs.pins_of_rest (by simp [State.InCycle, hq]))
  | sleep hq => exact .of_rest (by simp [State.InCycle]) (hs.pins_of_rest (by simp [State.InCycle, hq]))

theorem Does.pinsInv {e : Event} {s t : State} (h : Does s e t) (hs : s.PinsInv) : t.PinsInv := by
  cases e with
  | step => exact h.step_pinsInv hs
  | tick => rw [h.eq_tick]; exact hs.after_tick
  | rst => exact (h.atReset rfl).pinsInv
  | rstTick => exact (h.atReset rfl).pinsInv

/-- Settles O27: every event keeps what the lines show, and it says nothing of the schedule. -/
theorem pinsShowThePosition : Obligations.PinsShowThePosition :=
  ⟨fun _ => State.AtReset.pinsInv rfl, fun _ _ => step_keeps (fun _ _ _ h => h) Does.pinsInv⟩

end Sys2Proof.Machine
end

section
/-! Proofs of the obligations on how many STEPs lead to S_SLEEP (41_motor_sequencer R147, R155). -/

namespace Sys2Proof.Machine

/-! ### The STEPs left before S_SLEEP -/

/-- The STEPs from the end of a cycle to S_SLEEP: 14 per startup cycle left, the last BOOTNEXT, and SLEEP. -/
def State.stepsAfterCycle (s : State) : Nat := if s.booting then 14 * s.boot_left + 2 else 1

/-- The STEPs to S_SLEEP if no TICK falls among them. -/
def State.stepsToSleep (s : State) : Nat :=
  match s.seq with
  | .S_SLEEP => 0
  | .S_DOZE => 1
  | .S_CHECK => if s.pulse_req then 16 else 2
  | .S_CLEAR => 15
  | .S_BOOT | .S_APPLY | .S_HOLD | .S_NEUTRAL => 13 - s.position + s.stepsAfterCycle

section
variable {s : State}

theorem State.stepsToSleep_of_sleep (h : s.seq = .S_SLEEP) : s.stepsToSleep = 0 := by
  simp [State.stepsToSleep, h]

theorem State.stepsToSleep_of_doze (h : s.seq = .S_DOZE) : s.stepsToSleep = 1 := by
  simp [State.stepsToSleep, h]

theorem State.stepsToSleep_of_check (h : s.seq = .S_CHECK) :
    s.stepsToSleep = if s.pulse_req then 16 else 2 := by
  simp [State.stepsToSleep, h]

theorem State.stepsToSleep_of_clear (h : s.seq = .S_CLEAR) : s.stepsToSleep = 15 := by
  simp [State.stepsToSleep, h]

theorem State.stepsToSleep_of_boot (h : s.seq = .S_BOOT) : s.stepsToSleep = s.stepsAfterCycle := by
  simp [State.stepsToSleep, State.position_of_rest, State.InCycle, h]

theorem State.stepsToSleep_of_inCycle (h : s.InCycle) : s.stepsToSleep = 13 - s.position + s.stepsAfterCycle := by
  rcases h with h | h | h <;> simp [State.stepsToSleep, h]

theorem State.stepsToSleep_of_start (hq : s.seq = .S_APPLY) (hp : s.phase = 0#3) :
    s.stepsToSleep = 13 + s.stepsAfterCycle := by
  rw [State.stepsToSleep_of_inCycle (.inl hq), State.position_of_start hq hp]

/-- After NEUTRAL all that is left is what comes after a cycle. -/
theorem State.CycleDone.stepsToSleep (h : s.CycleDone) : s.stepsToSleep = s.stepsAfterCycle := by
  obtain ⟨hq, -, -⟩ := h
  cases hb : s.booting with
  | true => exact State.stepsToSleep_of_boot (by simp [hq, hb])
  | false => rw [State.stepsToSleep_of_doze (by simp [hq, hb]), State.stepsAfterCycle, hb]; rfl

/-- Only a sleeping sequencer has none left. -/
theorem State.seq_of_stepsToSleep (hp : s.phase ≤ 5#3) (h : s.stepsToSleep = 0) : s.seq = .S_SLEEP := by
  have hcycle (hc : s.InCycle) : s.seq = .S_SLEEP := by
    have := State.position_lt_of_inCycle hc hp
    rw [State.stepsToSleep_of_inCycle hc] at h
    omega
  cases hq : s.seq with
  | S_SLEEP => rfl
  | S_BOOT =>
    rw [State.stepsToSleep_of_boot hq, State.stepsAfterCycle] at h
    split at h <;> omega
  | S_APPLY => exact hq.symm.trans (hcycle (.inl hq))
  | S_HOLD => exact hq.symm.trans (hcycle (.inr (.inl hq)))
  | S_NEUTRAL => exact hq.symm.trans (hcycle (.inr (.inr hq)))
  | S_CHECK =>
    rw [State.stepsToSleep_of_check hq] at h
    split at h <;> omega
  | S_CLEAR => rw [State.stepsToSleep_of_clear hq] at h; cases h
  | S_DOZE => rw [State.stepsToSleep_of_doze hq] at h; cases h

/-- The bound of 41_motor_sequencer R155: the longest ways are a whole cycle in the startup phase and what comes after
it, and a CHECK of a set flag. -/
theorem State.stepsToSleep_le (s : State) : s.stepsToSleep ≤ 14 * s.boot_left + 16 := by
  have hafter : s.stepsAfterCycle ≤ 14 * s.boot_left + 2 := by
    rw [State.stepsAfterCycle]
    split <;> omega
  cases hq : s.seq with
  | S_CHECK =>
    rw [State.stepsToSleep_of_check hq]
    split <;> omega
  | _ =>
    simp only [State.stepsToSleep, hq]
    omega

end

/-- Every STEP of a sequencer that is not asleep is one less to come. -/
theorem Does.stepsToSleep_succ {s t : State} (h : Does s .step t) (hs : s.Inv) (hq : s.seq ≠ .S_SLEEP) :
    t.stepsToSleep + 1 = s.stepsToSleep := by
  obtain ⟨-, hphase, -, -, hrest, hboot, -⟩ := hs
  by_cases hc : s.InCycle
  · have hpos := h.position_succ hc
    have hlt := State.position_lt_of_inCycle hc hphase
    have hafter : t.stepsAfterCycle = s.stepsAfterCycle := by
      rw [State.stepsAfterCycle, State.stepsAfterCycle, h.booting_inCycle hc, (SameCycle.of_step h hc).boot_left]
    rw [State.stepsToSleep_of_inCycle hc]
    rcases h.inCycle_or_done hc hphase with ⟨hc', hphase'⟩ | hdone
    · have hlt' := State.position_lt_of_inCycle hc' hphase'
      rw [State.stepsToSleep_of_inCycle hc']
      omega
    · have hend := State.position_of_rest hdone.not_inCycle
      rw [hdone.stepsToSleep]
      omega
  · cases h with
    | reset he => cases he
    | bootLast hb hleft =>
      obtain ⟨hbooting, -⟩ := hboot hb
      rw [State.stepsToSleep_of_doze rfl, State.stepsToSleep_of_boot hb, State.stepsAfterCycle, hbooting, hleft]
      rfl
    | bootCycle hb hleft =>
      obtain ⟨hbooting, -⟩ := hboot hb
      rw [State.stepsToSleep_of_start rfl rfl, State.stepsToSleep_of_boot hb]
      simp only [State.stepsAfterCycle, hbooting, if_true]
      omega
    | apply k hb hp => exact absurd (.inl hb) hc
    | holdLast hb hp => exact absurd (.inr (.inl hb)) hc
    | holdNext hb hp => exact absurd (.inr (.inl hb)) hc
    | neutral hb => exact absurd (.inr (.inr hb)) hc
    | wait hb => exact absurd hb hq
    | check hb =>
      rw [State.stepsToSleep_of_check hb]
      cases hr : s.pulse_req with
      | true => rw [State.stepsToSleep_of_clear rfl]; rfl
      | false => rw [State.stepsToSleep_of_doze rfl]; rfl
    | clear hb =>
      obtain ⟨hbooting, -⟩ := hrest (.inr (.inr (.inl hb)))
      rw [State.stepsToSleep_of_clear hb, State.stepsToSleep_of_start rfl rfl]
      simp [State.stepsAfterCycle, hbooting]
    | sleep hb => rw [State.stepsToSleep_of_sleep rfl, State.stepsToSleep_of_doze hb]

/-- With no TICK among them, that many STEPs lead to S_SLEEP. -/
theorem State.Inv.run_to_sleep {s : State} (hs : s.Inv) :
    ∃ t, runTrace (List.replicate s.stepsToSleep .step) s = .next t ∧ t.seq = .S_SLEEP := by
  induction hn : s.stepsToSleep generalizing s with
  | zero =>
    obtain ⟨-, hphase, -⟩ := hs
    exact ⟨s, rfl, State.seq_of_stepsToSleep hphase hn⟩
  | succ n ih =>
    have hawake : s.seq ≠ .S_SLEEP := fun hq => by simp [State.stepsToSleep_of_sleep hq] at hn
    obtain ⟨u, hu, hinv⟩ := hs.event_answers .step
    have hless := (does_of_runEvent hu).stepsToSleep_succ hs hawake
    obtain ⟨t, ht, hsleep⟩ := ih hinv (by omega)
    exact ⟨t, by rw [List.replicate_succ, runTrace_cons, hu, andThen_next, ht], hsleep⟩

/-- Settles O48: the STEPs to S_SLEEP, counted by `State.stepsToSleep`, and their bound. -/
theorem quiescence : Obligations.Quiescence := by
  refine ⟨fun s hs => ?_, fun s t hq h => ?_⟩
  · obtain ⟨t, ht, hsleep⟩ := hs.run_to_sleep
    exact ⟨s.stepsToSleep, t, s.stepsToSleep_le, ht, hsleep⟩
  · rw [(does_of_runEvent h).eq_tick]
    simp [hq]

/-! ### The startup phase -/

/-- A TICK costs a STEP only by waking a sleeping sequencer, or by a fire before the CHECK. -/
theorem State.stepsToSleep_tick {s : State} (hsleep : s.seq ≠ .S_SLEEP) (hcheck : s.seq ≠ .S_CHECK) :
    s.accumulate.wake.stepsToSleep = s.stepsToSleep := by
  have hafter : s.accumulate.wake.stepsAfterCycle = s.stepsAfterCycle := by simp [State.stepsAfterCycle]
  cases hq : s.seq with
  | S_SLEEP => exact absurd hq hsleep
  | S_CHECK => exact absurd hq hcheck
  | _ => simp [State.stepsToSleep, hq, hafter]

/-- Not yet asleep for the first time since reset: in the startup phase, or in the gap that ends it. -/
abbrev State.StartingUp (s : State) : Prop := s.booting = true ∨ s.seq = .S_DOZE

/-- No request is looked at or served there (10_state R32). -/
theorem State.StartingUp.not_serving {s : State} (h : s.StartingUp) (hs : s.Inv) :
    s.seq ≠ .S_SLEEP ∧ s.seq ≠ .S_CHECK ∧ s.seq ≠ .S_CLEAR := by
  obtain ⟨-, -, -, -, hrest, -⟩ := hs
  rcases h with hbooting | hq
  · have hno : ¬ (s.seq = .S_SLEEP ∨ s.seq = .S_CHECK ∨ s.seq = .S_CLEAR ∨ s.seq = .S_DOZE) := fun hq => by
      obtain ⟨hdone, -⟩ := hrest hq
      simp [hbooting] at hdone
    exact ⟨fun hq => hno (.inl hq), fun hq => hno (.inr (.inl hq)), fun hq => hno (.inr (.inr (.inl hq)))⟩
  · simp [hq]

theorem State.StartingUp.after_tick {s : State} (h : s.StartingUp) : s.accumulate.wake.StartingUp := by
  rcases h with hbooting | hq
  · exact .inl (by simpa using hbooting)
  · exact .inr (by simp [hq])

/-- A STEP that does not lead to S_SLEEP stays there. -/
theorem Does.startingUp {s t : State} (h : Does s .step t) (hup : s.StartingUp) (hmore : 1 < s.stepsToSleep) :
    t.StartingUp := by
  rcases hup with hbooting | hq
  · obtain ⟨-, hkept | ⟨-, -, -, -, hdoze⟩⟩ := startupRunsOnce .step s t rfl (runEvent_of_does h)
    · exact .inl (hkept.trans hbooting)
    · exact .inr hdoze
  · rw [State.stepsToSleep_of_doze hq] at hmore
    exact absurd hmore (lt_irrefl 1)

/-- Only a STEP of S_CLEAR counts a CLEAR (41_motor_sequencer R143). -/
theorem Does.clears_of_not_clear {s t : State} (h : Does s .step t) (hq : s.seq ≠ .S_CLEAR) :
    t.obs.clears = s.obs.clears := by
  cases h with
  | reset he => cases he
  | clear hc => exact absurd hc hq
  | _ => rfl

/-- What a run has come to that goes on from `s` and has not led to S_SLEEP yet. -/
structure StartupRun (n : Nat) (s t : State) : Prop where
  inv : t.Inv
  startingUp : t.StartingUp
  clears : t.obs.clears = s.obs.clears
  steps : t.stepsToSleep + n = s.stepsToSleep

/-- Each STEP is one of those to come, whatever TICKs fall in between (41_motor_sequencer R147). -/
theorem StartupRun.of_trace {tr : List Event} {s t : State} (hs : s.Inv) (hup : s.StartingUp) (hfree : RstFree tr)
    (h : runTrace tr s = .next t) (hcount : tr.count .step < s.stepsToSleep) :
    StartupRun (tr.count .step) s t := by
  induction tr generalizing s with
  | nil => cases h; exact ⟨hs, hup, rfl, rfl⟩
  | cons e es ih =>
    obtain ⟨he, hes⟩ := List.forall_mem_cons.mp hfree
    obtain ⟨u, hu, hrest⟩ := (andThen_eq_next _).mp h
    have hdoes := does_of_runEvent hu
    obtain ⟨hsleep, hcheck, hclear⟩ := hup.not_serving hs
    cases e with
    | rst => cases he
    | rstTick => cases he
    | tick =>
      obtain rfl := hdoes.eq_tick
      have hsame := State.stepsToSleep_tick hsleep hcheck
      obtain ⟨hinv, hup', hclears, hsteps⟩ :=
        ih (hdoes.inv hs) hup.after_tick hes hrest (by simpa [hsame] using hcount)
      exact ⟨hinv, hup', by simpa using hclears, by simpa [hsame] using hsteps⟩
    | step =>
      rw [List.count_cons_self] at hcount ⊢
      have hless := hdoes.stepsToSleep_succ hs hsleep
      obtain ⟨hinv, hup', hclears, hsteps⟩ :=
        ih (hdoes.inv hs) (hdoes.startingUp hup (by omega)) hes hrest (by omega)
      exact ⟨hinv, hup', hclears.trans (hdoes.clears_of_not_clear hclear), by omega⟩

theorem State.initial_stepsToSleep (d : WfConfig) : (State.initial d).stepsToSleep = 14 * d.val.STARTUP_CYCLES + 2 :=
  State.stepsToSleep_of_boot rfl

/-- A run with no RST but an opening one is a run without RST, after that one. -/
theorem NoRst.cases {tr : List Event} (h : NoRst tr) :
    RstFree tr ∨ ∃ e es, e.isRst = true ∧ RstFree es ∧ tr = e :: es := by
  cases tr with
  | nil => exact .inl nofun
  | cons e es =>
    cases he : e.isRst with
    | false => exact .inl (List.forall_mem_cons.mpr ⟨he, h⟩)
    | true => exact .inr ⟨e, es, he, h, rfl⟩

theorem StartupRun.of_reset {tr : List Event} {d : WfConfig} {t : State} (hno : NoRst tr)
    (h : runTrace tr (State.initial d) = .next t) (hcount : tr.count .step < 14 * d.val.STARTUP_CYCLES + 2) :
    StartupRun (tr.count .step) (State.initial d) t := by
  rw [← State.initial_stepsToSleep] at hcount
  rcases hno.cases with hfree | ⟨e, es, he, hfree, rfl⟩
  · exact .of_trace (State.initial_inv d) (.inl rfl) hfree h hcount
  · have hstep : e ≠ .step := by rintro rfl; cases he
    rw [runTrace_cons, runEvent_rst_initial he, andThen_next] at h
    rw [List.count_cons_of_ne hstep] at hcount ⊢
    exact .of_trace (State.initial_inv d) (.inl rfl) hfree h hcount

/-- While no CLEAR was made, the flag shows whether a TICK fired (20_memory R62). -/
abbrev State.FlagUncleared (s : State) : Prop := s.obs.clears = 0 → (s.pulse_req = true ↔ 0 < s.obs.fires)

theorem State.initial_flagUncleared (d : WfConfig) : (State.initial d).FlagUncleared := by
  simp [State.FlagUncleared, State.initial, Observer.empty]

theorem Does.flagUncleared {e : Event} {s t : State} (h : Does s e t) (hs : s.FlagUncleared) : t.FlagUncleared := by
  cases h with
  | reset he => exact State.initial_flagUncleared s.device
  | tickFire hf => exact fun _ => ⟨fun _ => Nat.succ_pos _, fun _ => rfl⟩
  | clear hq => exact nofun
  | _ => exact hs

theorem flagUncleared_of_trace {tr : List Event} {s t : State} (hs : s.FlagUncleared) (h : runTrace tr s = .next t) :
    t.FlagUncleared := by
  induction tr generalizing s with
  | nil => cases h; exact hs
  | cons e es ih =>
    obtain ⟨u, hu, hrest⟩ := (andThen_eq_next _).mp h
    exact ih ((does_of_runEvent hu).flagUncleared hs) hrest

/-- The last event of a trace, apart. -/
theorem runTrace_concat_eq_next {tr : List Event} {e : Event} {s t : State} (h : runTrace (tr ++ [e]) s = .next t) :
    ∃ u, runTrace tr s = .next u ∧ runEvent e u = .next t := by
  rw [runTrace_append] at h
  obtain ⟨u, hu, hlast⟩ := (andThen_eq_next _).mp h
  obtain ⟨v, hv, hnil⟩ := (andThen_eq_next _).mp hlast
  cases hnil
  exact ⟨u, hu, hv⟩

theorem NoRst.of_append {as bs : List Event} (h : NoRst (as ++ bs)) : NoRst as := by
  cases as with
  | nil => exact nofun
  | cons e es => exact fun e' he' => h e' (List.mem_append_left bs he')

/-- What the startup phase has come to where it leads to S_SLEEP: all the cycles on the books are startup cycles, and
complete. -/
theorem State.CyclesOnBooks.of_first_sleep {s : State} (h : s.CyclesOnBooks) (hs : s.Inv) (hq : s.seq = .S_SLEEP)
    (hclears : s.obs.clears = 0) :
    s.obs.applies = 6 * s.cfg.STARTUP_CYCLES ∧ s.obs.pin_trace.length = 7 * s.cfg.STARTUP_CYCLES := by
  obtain ⟨-, -, -, hdone, hrest, -⟩ := hs
  have hc : ¬ s.InCycle := by simp [State.InCycle, hq]
  obtain ⟨hbooting, -⟩ := hrest (.inl hq)
  have hleft : s.boot_left = 0 := hdone hbooting
  have hbegun : s.cyclesBegun = s.cfg.STARTUP_CYCLES := by rw [State.cyclesBegun, hleft, hclears]; rfl
  obtain ⟨hcodes, happlies⟩ := h
  rw [State.appliesLeft_of_rest hc, hbegun] at happlies
  rw [State.codesLeft_of_rest hc, List.append_nil, hbegun] at hcodes
  refine ⟨happlies, ?_⟩
  rw [hcodes]
  simp [Config.cycleCodes, Nat.mul_comm]

/-- Settles O42: the STEPs to S_SLEEP run out at number `14 * STARTUP_CYCLES + 2`. -/
theorem startupCount : Obligations.StartupCount := by
  intro d tr hno
  obtain ⟨t, ht, hinv, hbooks⟩ := cyclesOnBooks_of_reset d tr
  refine ⟨t, ht, fun hlt => ?_, fun hcount hlast => ?_⟩
  · obtain ⟨hsleep, -⟩ := (StartupRun.of_reset hno ht hlt).startingUp.not_serving hinv
    exact hsleep
  · obtain ⟨tr, rfl⟩ := List.getLast?_eq_some_iff.mp hlast
    obtain ⟨u, hu, hstep⟩ := runTrace_concat_eq_next ht
    rw [List.count_append, List.count_singleton_self] at hcount
    obtain ⟨hinvu, hup, hclears, hsteps⟩ := StartupRun.of_reset hno.of_append hu (by omega)
    obtain ⟨hawake, -, hclear⟩ := hup.not_serving hinvu
    have hdoes := does_of_runEvent hstep
    have hzero : t.stepsToSleep = 0 := by
      have hless := hdoes.stepsToSleep_succ hinvu hawake
      rw [State.initial_stepsToSleep] at hsteps
      omega
    have hasleep : t.seq = .S_SLEEP := by
      obtain ⟨-, hphase, -⟩ := hinv
      exact State.seq_of_stepsToSleep hphase hzero
    have hnone : t.obs.clears = 0 := (hdoes.clears_of_not_clear hclear).trans hclears
    have hcfg : t.cfg = d.val := congrArg Subtype.val (runTrace_device ht)
    have hflag : t.FlagUncleared := flagUncleared_of_trace (State.initial_flagUncleared d) ht
    obtain ⟨happlies, hwrites⟩ := hbooks.of_first_sleep hinv hasleep hnone
    rw [hcfg] at happlies hwrites
    exact ⟨hasleep, happlies, hwrites, hnone, hflag hnone⟩

end Sys2Proof.Machine
end

section
/-! Proof of the obligation on the accounting of requests (41_motor_sequencer R151, 20_memory R62). -/

namespace Sys2Proof.Machine

/-! ### Counting along a run -/

theorem countAlong_cons {p : Event → State → Bool} {e : Event} {s t : State} (h : runEvent e s = .next t)
    (es : List Event) : countAlong p (e :: es) s = (if p e s then 1 else 0) + countAlong p es t := by
  rw [countAlong, h]

/-- What is counted apart for a clear and for a set flag is counted in all. -/
theorem countAlong_by_flag {p : Event → State → Bool} {q : Bool → Event → State → Bool}
    (h : ∀ flag e s, q flag e s = (p e s && s.pulse_req == flag)) (tr : List Event) (s : State) :
    countAlong (q false) tr s + countAlong (q true) tr s = countAlong p tr s := by
  induction tr generalizing s with
  | nil => rfl
  | cons e es ih =>
    have hone : ((if q false e s then 1 else 0) + if q true e s then 1 else 0) = if p e s then 1 else 0 := by
      rw [h, h]
      cases s.pulse_req <;> simp
    rw [countAlong, countAlong, countAlong, ← hone]
    cases runEvent e s with
    | next t => have := ih t; simp only; omega
    | fault f => rfl
    | refused r => rfl

/-- `f` grows by one at each event that `p` counts and stays at every other, but for an RST. The states are those of
`SelectorInv`, where a CLEAR finds the flag set (93_implementation_defined X5). -/
structure Counts (p : Event → State → Bool) (f : State → Nat) : Prop where
  rst : ∀ s, p .rst s = false ∧ p .rstTick s = false
  event : ∀ {e s t}, s.SelectorInv → e.isRst = false → Does s e t → f t = f s + if p e s then 1 else 0

theorem Counts.of_trace {p : Event → State → Bool} {f : State → Nat} (hp : Counts p f) {tr : List Event}
    {s t : State} (hs : s.SelectorInv) (hfree : RstFree tr) (h : runTrace tr s = .next t) :
    f t = f s + countAlong p tr s := by
  induction tr generalizing s with
  | nil => cases h; rfl
  | cons e es ih =>
    obtain ⟨he, hes⟩ := List.forall_mem_cons.mp hfree
    obtain ⟨u, hu, hrest⟩ := (andThen_eq_next _).mp h
    have hdoes := does_of_runEvent hu
    rw [countAlong_cons hu, ih (hdoes.selectorInv hs) hes hrest, hp.event hs he hdoes, Nat.add_assoc]

theorem State.initial_selectorInv (d : WfConfig) : (State.initial d).SelectorInv :=
  ⟨State.initial_inv d, nofun, nofun⟩

/-- From reset, with `f` at 0 there, `f` is the count. -/
theorem Counts.of_reset {p : Event → State → Bool} {f : State → Nat} (hp : Counts p f) {tr : List Event}
    {d : WfConfig} {t : State} (h₀ : f (State.initial d) = 0) (hno : NoRst tr)
    (h : runTrace tr (State.initial d) = .next t) : countAlong p tr (State.initial d) = f t := by
  rcases hno.cases with hfree | ⟨e, es, he, hfree, rfl⟩
  · rw [hp.of_trace (State.initial_selectorInv d) hfree h, h₀, Nat.zero_add]
  · have hrst := runEvent_rst_initial he d
    have hnot : p e (State.initial d) = false := by
      obtain ⟨hone, htwo⟩ := hp.rst (State.initial d)
      cases e with
      | rst => exact hone
      | rstTick => exact htwo
      | step => cases he
      | tick => cases he
    rw [runTrace_cons, hrst, andThen_next] at h
    rw [countAlong_cons hrst, hnot, hp.of_trace (State.initial_selectorInv d) hfree h, h₀]
    rfl

/-! ### What is counted -/

/-- A TICK that fires, whatever it finds of the flag. -/
def firesAtAll (e : Event) (s : State) : Bool := e == .tick && s.fires

/-- A fire on a clear flag makes a request, which is pending until the CLEAR that serves it (20_memory R62). -/
theorem counts_firesOnClearFlag : Counts (firesOnFlag false) fun s => s.obs.clears + if s.pulse_req then 1 else 0 where
  rst _ := ⟨rfl, rfl⟩
  event {e s t} hs he h := by
    obtain ⟨-, -, hflag⟩ := hs
    cases h with
    | reset hrst => rw [he] at hrst; cases hrst
    | tickQuiet hf => simp [firesOnFlag, hf]
    | tickFire hf => cases hr : s.pulse_req <;> simp [firesOnFlag, hf, hr]
    | clear hq => simp [firesOnFlag, hflag hq]
    | _ => simp [firesOnFlag]

/-- The observer counts every fire. -/
theorem counts_firesAtAll : Counts firesAtAll fun s => s.obs.fires where
  rst _ := ⟨rfl, rfl⟩
  event {e s t} _ he h := by
    cases h with
    | reset hrst => rw [he] at hrst; cases hrst
    | tickQuiet hf => simp [firesAtAll, hf]
    | tickFire hf => simp [firesAtAll, hf]
    | _ => rfl

/-- Every CLEAR finds the flag set (93_implementation_defined X5). -/
theorem counts_clearsOnClearFlag : Counts (clearsOnFlag false) fun _ => 0 where
  rst _ := ⟨rfl, rfl⟩
  event {e s t} hs _ _ := by
    obtain ⟨-, -, hflag⟩ := hs
    have hnot : clearsOnFlag false e s = false := by
      by_cases hq : s.seq = .S_CLEAR
      · simp [clearsOnFlag, hflag hq]
      · simp [clearsOnFlag, hq]
    rw [hnot]
    rfl

/-- The observer counts every CLEAR, and each begins a requested cycle. -/
theorem counts_beginsRequestedCycle : Counts beginsRequestedCycle fun s => s.obs.clears where
  rst _ := ⟨rfl, rfl⟩
  event {e s t} _ he h := by
    cases h with
    | reset hrst => rw [he] at hrst; cases hrst
    | clear hq => simp [beginsRequestedCycle, hq]
    | _ => simp [beginsRequestedCycle, *]

/-- Each startup cycle begun is one of `STARTUP_CYCLES` that is no longer left (10_state R25). -/
theorem counts_beginsStartupCycle : Counts beginsStartupCycle fun s => s.cfg.STARTUP_CYCLES - s.boot_left where
  rst _ := ⟨rfl, rfl⟩
  event {e s t} hs he h := by
    obtain ⟨⟨-, -, hleft, -⟩, -, -⟩ := hs
    cases h with
    | reset hrst => rw [he] at hrst; cases hrst
    | bootLast hq hb => simp [beginsStartupCycle, hb]
    | bootCycle hq hb =>
      have hcount : beginsStartupCycle .step s = true := by simp [beginsStartupCycle, hq, hb]
      rw [if_pos hcount]
      show s.cfg.STARTUP_CYCLES - (s.boot_left - 1) = s.cfg.STARTUP_CYCLES - s.boot_left + 1
      omega
    | _ => simp [beginsStartupCycle, *]

/-- Settles O46: each count is the one its `Counts` says; the fires, and the CLEARs, are counted apart by the flag they
find. -/
theorem requestAccounting : Obligations.RequestAccounting := by
  intro d tr hno
  obtain ⟨t, ht, -, -, hleft, -⟩ := (State.initial_inv d).trace_answers tr
  have hfires := counts_firesAtAll.of_reset rfl hno ht
  have hunset := counts_clearsOnClearFlag.of_reset rfl hno ht
  have hclears := counts_beginsRequestedCycle.of_reset rfl hno ht
  have hstartup := counts_beginsStartupCycle.of_reset (Nat.sub_self _) hno ht
  refine ⟨t, ht, counts_firesOnClearFlag.of_reset rfl hno ht, ?_, hunset, ?_, hclears, ?_⟩
  · exact (countAlong_by_flag (fun _ _ _ => rfl) tr _).trans hfires
  · have hsum : countAlong (clearsOnFlag false) tr _ + countAlong (clearsOnFlag true) tr _ = t.obs.clears :=
      (countAlong_by_flag (fun _ _ _ => rfl) tr (State.initial d)).trans hclears
    rwa [hunset, Nat.zero_add] at hsum
  · rw [State.cfg, runTrace_device ht] at hleft hstartup
    rw [hstartup]
    exact Nat.sub_add_cancel hleft

end Sys2Proof.Machine
end

section
/-! Proofs of the obligations on the TICKs that fall among the sequencer's STEPs (41_motor_sequencer R148, R149, R150,
R154). -/

namespace Sys2Proof.Machine

/-! ### A wake -/

/-- A STEP at the head of a trace: the operation it performs and the state it leads to. -/
theorem trace_step {s t : State} {i : Instr} (hd : decodeStep s.seq s.phase = .ok i) (h : Does s .step t)
    (es : List Event) :
    stepOps (.step :: es) s = i :: stepOps es t ∧ runTrace (.step :: es) s = runTrace es t :=
  ⟨stepOps_step hd (runEvent_of_does h) es, by rw [runTrace_cons, runEvent_of_does h, andThen_next]⟩

/-- A TICK at the head of a trace is none of its STEPs' operations. -/
theorem trace_tick (s : State) (es : List Event) :
    stepOps (.tick :: es) s = stepOps es s.accumulate.wake ∧
    runTrace (.tick :: es) s = runTrace es s.accumulate.wake :=
  ⟨stepOps_tick s es, by rw [runTrace_cons, runEvent_tick_eq, andThen_next]⟩

theorem trace_check {s : State} (hq : s.seq = .S_CHECK) (es : List Event) :
    stepOps (.step :: es) s = .check :: stepOps es (s.goto (if s.pulse_req then .S_CLEAR else .S_DOZE)) ∧
    runTrace (.step :: es) s = runTrace es (s.goto (if s.pulse_req then .S_CLEAR else .S_DOZE)) :=
  trace_step (by rw [hq]; rfl) (.check hq) es

theorem trace_sleep {s : State} (hq : s.seq = .S_DOZE) (es : List Event) :
    stepOps (.step :: es) s = .sleep :: stepOps es (s.goto .S_SLEEP) ∧
    runTrace (.step :: es) s = runTrace es (s.goto .S_SLEEP) :=
  trace_step (by rw [hq]; rfl) (.sleep hq) es

/-- A CLEAR ends the request and begins its cycle (41_motor_sequencer R143). -/
theorem trace_clear {s : State} (hq : s.seq = .S_CLEAR) :
    stepOps [.step] s = [.clear] ∧
    ∃ t, runTrace [.step] s = .next t ∧ t.seq = .S_APPLY ∧ t.phase = 0#3 ∧ t.pulse_req = false ∧
      t.obs.fires = s.obs.fires ∧ t.obs.clears = s.obs.clears + 1 := by
  obtain ⟨hops, hrun⟩ := trace_step (by rw [hq]; rfl) (.clear hq) []
  exact ⟨hops, _, hrun, rfl, rfl, rfl, rfl, rfl⟩

/-- Settles O43: the wake, the CHECK and the SLEEP, of which only the wake's TICK writes more than `seq`. -/
theorem idleIsIdempotent : Obligations.IdleIsIdempotent := by
  intro s hq hr hlt
  have hf : s.fires = false := Bool.eq_false_iff.mpr fun hfire => hlt.not_ge (s.fires_eq_true_iff.mp hfire)
  have hback : (s.accumulate.wake.goto .S_DOZE).goto .S_SLEEP =
      { s with acc := s.tickSum, obs := { s.obs with ticks := s.obs.ticks + 1 } } := by
    rw [State.wake_of_sleep (by simpa using hq), State.accumulate_of_not_fires hf, ← hq]; rfl
  obtain ⟨htickOps, htickRun⟩ := trace_tick s [.step, .step]
  obtain ⟨hcheckOps, hcheckRun⟩ := trace_check (s := s.accumulate.wake) (by simp [hq]) [.step]
  obtain ⟨hsleepOps, hsleepRun⟩ := trace_sleep (s := s.accumulate.wake.goto .S_DOZE) rfl []
  simp only [State.wake_pulse_req, State.accumulate_pulse_req, hr, hf, Bool.or_self] at hcheckOps hcheckRun
  constructor
  · rw [htickOps, hcheckOps]; exact congrArg _ hsleepOps
  · rw [htickRun, hcheckRun]; exact hsleepRun.trans (congrArg _ hback)

/-- Settles O44: a TICK sets the flag and wakes S_SLEEP only; of the other events only CLEAR and RST write it; after the
wake CHECK finds it set. -/
theorem deferredService : Obligations.DeferredService := by
  refine ⟨fun s hq hle => ?_, fun e s t hr h => ?_, fun s hq hset => ?_⟩
  · have hf : s.fires = true := s.fires_eq_true_iff.mpr hle
    exact ⟨s.accumulate.wake, runEvent_tick_eq s, by simp [hf], by simp [hq]⟩
  · cases does_of_runEvent h with
    | reset he => exact .inr (.inl he)
    | tickFire hf => exact .inl rfl
    | clear hq => exact .inr (.inr ⟨rfl, hq⟩)
    | _ => exact .inl hr
  · have hr : (s.pulse_req || s.fires) = true :=
      (Bool.or_eq_true _ _).mpr (hset.imp_right s.fires_eq_true_iff.mpr)
    obtain ⟨htickOps, htickRun⟩ := trace_tick s [.step, .step]
    obtain ⟨hcheckOps, hcheckRun⟩ := trace_check (s := s.accumulate.wake) (by simp [hq]) [.step]
    obtain ⟨hclearOps, t, hclearRun, hseq, hphase, hreq, -, hclears⟩ :=
      trace_clear (s := s.accumulate.wake.goto .S_CLEAR) rfl
    simp only [State.wake_pulse_req, State.accumulate_pulse_req, hr, if_true] at hcheckOps hcheckRun
    refine ⟨?_, t, ?_, hseq, hphase, hreq, by simpa using hclears⟩
    · rw [htickOps, hcheckOps, hclearOps]
    · rw [htickRun, hcheckRun, hclearRun]

/-- Settles O45: the fire between the CHECK and the CLEAR finds the flag set, and is counted. -/
theorem coalescedInReadClearWindow : Obligations.CoalescedInReadClearWindow := by
  intro s hq hr hle
  have hf : (s.goto .S_CLEAR).fires = true := s.fires_eq_true_iff.mpr hle
  obtain ⟨hcheckOps, hcheckRun⟩ := trace_check hq [.tick, .step]
  obtain ⟨htickOps, htickRun⟩ := trace_tick (s.goto .S_CLEAR) [.step]
  obtain ⟨hclearOps, t, hclearRun, hseq, hphase, hreq, hfires, hclears⟩ :=
    trace_clear (s := (s.goto .S_CLEAR).accumulate.wake) (by simp)
  simp only [hr, if_true] at hcheckOps hcheckRun
  refine ⟨?_, t, ?_, hseq, hphase, hreq, by simpa [hf] using hfires, by simpa using hclears⟩
  · rw [hcheckOps, htickOps, hclearOps]
  · rw [hcheckRun, htickRun, hclearRun]

/-! ### A TICK in a cycle -/

/-- The accumulator's part of a TICK that leaves `a` in `acc` and fires as `fire` says (40_rate_accumulator R111,
R112). -/
def State.withTick (s : State) (a : Nat) (fire : Bool) : State := { s with
  acc := a, pulse_req := s.pulse_req || fire,
  obs := { s.obs with ticks := s.obs.ticks + 1, fires := s.obs.fires + fire.toNat } }

theorem State.accumulate_eq_withTick (s : State) : s.accumulate = s.withTick s.accumulate.acc s.fires := by
  rw [State.withTick, ← State.accumulate_obs, ← State.accumulate_eq]

/-- What a TICK leaves in `acc` and whether it fires are no operands of a cycle's STEPs and none of their results
(41_motor_sequencer R154): the same case applies, and the TICK's writes stay. -/
theorem Does.withTick {s t : State} (h : Does s .step t) (hq : s.seq = .S_BOOT ∨ s.InCycle) (a : Nat) (fire : Bool) :
    Does (s.withTick a fire) .step (t.withTick a fire) := by
  cases h with
  | reset he => cases he
  | bootLast hb hleft => exact .bootLast (s := s.withTick a fire) hb hleft
  | bootCycle hb hleft => exact .bootCycle (s := s.withTick a fire) hb hleft
  | apply k hb hp => exact .apply (s := s.withTick a fire) k hb hp
  | holdLast hb hp => exact .holdLast (s := s.withTick a fire) hb hp
  | holdNext hb hp => exact .holdNext (s := s.withTick a fire) hb hp
  | neutral hb => exact .neutral (s := s.withTick a fire) hb
  | _ => simp [State.InCycle, *] at hq

/-- A STEP decides nothing of a TICK's part: it writes neither the constants nor `acc` (10_state R30). -/
theorem Does.accumulate {s t : State} (h : Does s .step t) (hq : s.seq = .S_BOOT ∨ s.InCycle) :
    Does s.accumulate .step t.accumulate := by
  obtain ⟨hdevice, -, -⟩ := h.constants
  obtain ⟨hacc, -⟩ := h.step_writes
  rw [State.accumulate_eq_withTick s, State.accumulate_eq_withTick t, State.accumulate_acc_congr hdevice hacc,
    State.fires_congr hdevice hacc]
  exact h.withTick hq _ _

/-- S_SLEEP is entered by SLEEP only (41_motor_sequencer R157). -/
theorem Does.entered_sleep {s t : State} (h : Does s .step t) (ht : t.seq = .S_SLEEP) :
    s.seq = .S_DOZE ∨ s.seq = .S_SLEEP := by
  cases h with
  | reset he => cases he
  | sleep hq => exact .inl hq
  | wait hq => exact .inr hq
  | neutral hq => cases hb : s.booting <;> simp [hb] at ht
  | check hq => cases hr : s.pulse_req <;> simp [hr] at ht
  | _ => cases ht

theorem runTrace_singleton (e : Event) (s : State) : runTrace [e] s = runEvent e s := by
  rw [runTrace_cons]
  cases runEvent e s <;> rfl

/-- A TICK that wakes nothing is the accumulator's part alone (40_rate_accumulator R113). -/
theorem runEvent_tick_of_not_sleep {s : State} (hq : s.seq ≠ .S_SLEEP) : runEvent .tick s = .next s.accumulate := by
  rw [runEvent_tick_eq, State.wake_of_not_sleep (by simpa using hq)]

/-- Settles O47: neither before the STEP nor after it does the TICK wake anything, and its accumulator's part passes
through the STEP (`Does.accumulate`); a STEP that faults does so on either side of it. -/
theorem tickCommutesWithCycleSteps : Obligations.TickCommutesWithCycleSteps := by
  intro s hq
  have hawake : ¬ (s.seq = .S_DOZE ∨ s.seq = .S_SLEEP) := by
    rintro (h | h) <;> simp [h] at hq
  have htickFirst : runTrace [.tick, .step] s = runEvent .step s.accumulate := by
    rw [runTrace_cons, runEvent_tick_of_not_sleep fun h => hawake (.inr h), andThen_next, runTrace_singleton]
  rw [htickFirst, runTrace_cons]
  rcases runEvent_answers .step s with ⟨t, ht⟩ | ⟨-, hqs, hp, hfault⟩
  · rw [runEvent_of_does ht, andThen_next, runTrace_singleton,
      runEvent_tick_of_not_sleep (mt ht.entered_sleep hawake)]
    exact runEvent_of_does (ht.accumulate hq)
  · rw [hfault, andThen_fault]
    exact runEvent_step_out_of_range (by simpa using hqs) (by simpa using hp)

end Sys2Proof.Machine
end

section
/-! Proofs of the obligations on the one fault (60_exceptions R170, R171). -/

namespace Sys2Proof.Machine

/-- The one fault, exactly where it is raised (60_exceptions R171, 30_encoding R88). -/
theorem runEvent_eq_fault_iff {e : Event} {s : State} {f : Fault} :
    runEvent e s = .fault f ↔
      f = .phaseIndexOutOfRange ∧ e = .step ∧ (s.seq = .S_APPLY ∨ s.seq = .S_HOLD) ∧ 5#3 < s.phase := by
  constructor
  · intro h
    rcases runEvent_answers e s with ⟨t, ht⟩ | ⟨he, hq, hp, hfault⟩
    · cases (runEvent_of_does ht).symm.trans h
    · cases hfault.symm.trans h
      exact ⟨rfl, he, hq, BitVec.not_le.mp hp⟩
  · rintro ⟨rfl, rfl, hq, hp⟩
    exact runEvent_step_out_of_range hq (BitVec.not_le.mpr hp)

/-- An event answers a next state or faults: no operation of the table is refused (30_encoding R87). -/
theorem runEvent_ne_refused (e : Event) (s : State) (r : Refusal) : runEvent e s ≠ .refused r := by
  intro h
  rcases runEvent_answers e s with ⟨t, ht⟩ | ⟨-, -, -, hfault⟩
  · cases (runEvent_of_does ht).symm.trans h
  · cases hfault.symm.trans h

/-- No later event clears the fault a trace has given (60_exceptions R171). -/
theorem runTrace_append_of_fault {tr : List Event} {s : State} {f : Fault} (h : runTrace tr s = .fault f)
    (more : List Event) : runTrace (tr ++ more) s = .fault f := by
  rw [runTrace_append, h, andThen_fault]

/-- Settles O20: the inversion of an event leaves the index past the table as the one way not to answer. -/
theorem faultsExactly : Obligations.FaultsExactly :=
  ⟨fun _ _ _ => runEvent_eq_fault_iff, runEvent_ne_refused, fun _ more _ _ h => runTrace_append_of_fault h more⟩

/-- Taking an event from the schedule keeps the invariants, which say nothing of it. -/
theorem State.Inv.takeEvent {s : State} (hs : s.Inv) : s.takeEvent.Inv := by
  rw [State.takeEvent_eq]
  exact hs

/-- Only a STEP can fault: a TICK and an RST answer in every state (40_rate_accumulator R114). -/
theorem runEvent_answers_of_ne_step {e : Event} (he : e ≠ .step) (s : State) : ∃ t, runEvent e s = .next t := by
  rcases runEvent_answers e s with ⟨t, ht⟩ | ⟨hstep, -⟩
  · exact ⟨t, runEvent_of_does ht⟩
  · exact absurd hstep he

/-- Settles O21: the invariants keep the index in the table (10_state R32), and the fault needs it past the table. -/
theorem stepNeverStops : Obligations.StepNeverStops := by
  have hevent (e : Event) (s : State) (hs : s.Inv) : ∃ t, runEvent e s = .next t := by
    obtain ⟨t, ht, -⟩ := hs.event_answers e
    exact ⟨t, ht⟩
  exact ⟨hevent, fun s hs => hevent s.nextEvent s.takeEvent hs.takeEvent,
    fun _ s he => runEvent_answers_of_ne_step he s⟩

end Sys2Proof.Machine
end

section
/-! Support for the liveness of a fair schedule (70_reset_and_hazards R221): what one kind of state leads to along the
schedule, and how the two halves of fairness make it so. -/

namespace Sys2Proof.Machine

/-- Along the schedule, a state with `P` is followed, at once or later, by one with `Q`. -/
def LeadsTo (sched : Nat → Event) (s : State) (P Q : State → Prop) : Prop :=
  ∀ (n : Nat) (t : State), runSchedule sched s n = .next t → P t →
    ∃ m u, n ≤ m ∧ runSchedule sched s m = .next u ∧ Q u

section
variable {sched : Nat → Event} {s : State} {P Q R : State → Prop}

theorem LeadsTo.refl : LeadsTo sched s P P := fun n t ht hP => ⟨n, t, le_rfl, ht, hP⟩

theorem LeadsTo.trans (hPQ : LeadsTo sched s P Q) (hQR : LeadsTo sched s Q R) : LeadsTo sched s P R := by
  intro n t ht hP
  obtain ⟨m, u, hm, hu, hQ⟩ := hPQ n t ht hP
  obtain ⟨k, v, hk, hv, hR⟩ := hQR m u hu hQ
  exact ⟨k, v, hm.trans hk, hv, hR⟩

/-- What leads to `Q` or one less of what is counted down leads to `Q`. -/
theorem LeadsTo.countdown {P : Nat → State → Prop} (hzero : LeadsTo sched s (P 0) Q)
    (hsucc : ∀ k, LeadsTo sched s (P (k + 1)) fun u => P k u ∨ Q u) (k : Nat) : LeadsTo sched s (P k) Q := by
  induction k with
  | zero => exact hzero
  | succ k ih =>
    refine (hsucc k).trans fun n t ht h => ?_
    rcases h with hP | hQ
    · exact ih n t ht hP
    · exact ⟨n, t, le_rfl, ht, hQ⟩

theorem runSchedule_succ_of_next {n : Nat} {t : State} (h : runSchedule sched s n = .next t) :
    runSchedule sched s (n + 1) = runEvent (sched n) t := by
  rw [runSchedule_succ, h, andThen_next]

/-- What every event but `e` keeps lasts until `e` is taken. -/
theorem runSchedule_until {e : Event}
    (keep : ∀ m u, sched m ≠ e → P u → ∃ v, runEvent (sched m) u = .next v ∧ P v) {n : Nat} {t : State}
    (ht : runSchedule sched s n = .next t) (hP : P t) (d : Nat) :
    (∃ m u, n ≤ m ∧ runSchedule sched s m = .next u ∧ sched m = e ∧ P u) ∨
      ∃ u, runSchedule sched s (n + d) = .next u ∧ P u := by
  induction d with
  | zero => exact .inr ⟨t, ht, hP⟩
  | succ d ih =>
    rcases ih with htaken | ⟨u, hu, hPu⟩
    · exact .inl htaken
    · by_cases he : sched (n + d) = e
      · exact .inl ⟨n + d, u, Nat.le_add_right n d, hu, he, hPu⟩
      · obtain ⟨v, hv, hPv⟩ := keep (n + d) u he hPu
        exact .inr ⟨v, (runSchedule_succ_of_next hu).trans hv, hPv⟩

/-- No RST is among the events. -/
theorem Fair.eq_step_or_tick (hfair : Fair sched s) (n : Nat) : sched n = .step ∨ sched n = .tick := by
  have hrst := hfair.noRst n
  cases hn : sched n with
  | step => exact .inl rfl
  | tick => exact .inr rfl
  | rst => rw [hn] at hrst; cases hrst
  | rstTick => rw [hn] at hrst; cases hrst

/-- Fairness (a): a STEP is taken of a sequencer that is awake, and what TICKs keep still holds there. -/
theorem Fair.step_taken (hfair : Fair sched s) (hawake : ∀ u, P u → u.seq ≠ .S_SLEEP)
    (htick : ∀ u, P u → P u.accumulate.wake) {n : Nat} {t : State} (ht : runSchedule sched s n = .next t) (hP : P t) :
    ∃ m u, n ≤ m ∧ runSchedule sched s m = .next u ∧ sched m = .step ∧ P u := by
  have keep (m : Nat) (u : State) (he : sched m ≠ .step) (hPu : P u) : ∃ v, runEvent (sched m) u = .next v ∧ P v := by
    rw [(hfair.eq_step_or_tick m).resolve_left he]
    exact ⟨u.accumulate.wake, runEvent_tick_eq u, htick u hPu⟩
  obtain ⟨m, hm, henabled⟩ := hfair.steps n
  obtain ⟨d, rfl⟩ := Nat.exists_eq_add_of_le hm
  rcases runSchedule_until keep ht hP d with htaken | ⟨u, hu, hPu⟩
  · exact htaken
  · rcases henabled with hstep | ⟨v, hv, hsleep⟩
    · exact ⟨n + d, u, hm, hu, hstep, hPu⟩
    · cases hu.symm.trans hv
      exact absurd hsleep (hawake u hPu)

/-- Fairness (b): a TICK is taken of a sequencer that is asleep, which STEPs leave as it is. -/
theorem Fair.tick_taken (hfair : Fair sched s) (hasleep : ∀ u, P u → u.seq = .S_SLEEP) {n : Nat} {t : State}
    (ht : runSchedule sched s n = .next t) (hP : P t) :
    ∃ m u, n ≤ m ∧ runSchedule sched s m = .next u ∧ sched m = .tick ∧ P u := by
  have keep (m : Nat) (u : State) (he : sched m ≠ .tick) (hPu : P u) : ∃ v, runEvent (sched m) u = .next v ∧ P v := by
    rw [(hfair.eq_step_or_tick m).resolve_right he]
    exact ⟨u, runEvent_step_sleep (hasleep u hPu), hPu⟩
  obtain ⟨m, hm, htick⟩ := hfair.ticks n
  obtain ⟨d, rfl⟩ := Nat.exists_eq_add_of_le hm
  rcases runSchedule_until keep ht hP d with htaken | ⟨u, hu, hPu⟩
  · exact htaken
  · exact ⟨n + d, u, hm, hu, htick, hPu⟩

/-- So what TICKs keep in an awake sequencer leads to what a STEP of it leads to. -/
theorem Fair.leadsTo_by_step (hfair : Fair sched s) (hinv : ∀ u, P u → u.Inv)
    (hawake : ∀ u, P u → u.seq ≠ .S_SLEEP) (htick : ∀ u, P u → P u.accumulate.wake)
    (hstep : ∀ {u v}, Does u .step v → P u → Q v) : LeadsTo sched s P Q := by
  intro n t ht hP
  obtain ⟨m, u, hm, hu, he, hPu⟩ := hfair.step_taken hawake htick ht hP
  obtain ⟨v, hv, -⟩ := (hinv u hPu).event_answers .step
  exact ⟨m + 1, v, Nat.le_succ_of_le hm, by rw [runSchedule_succ_of_next hu, he, hv], hstep (does_of_runEvent hv) hPu⟩

/-- And a sleeping sequencer leads to what a TICK makes of it. -/
theorem Fair.leadsTo_by_wake (hfair : Fair sched s) (hasleep : ∀ u, P u → u.seq = .S_SLEEP)
    (hwake : ∀ u, P u → Q u.accumulate.wake) : LeadsTo sched s P Q := by
  intro n t ht hP
  obtain ⟨m, u, hm, hu, he, hPu⟩ := hfair.tick_taken hasleep ht hP
  exact ⟨m + 1, u.accumulate.wake, Nat.le_succ_of_le hm, by rw [runSchedule_succ_of_next hu, he, runEvent_tick_eq],
    hwake u hPu⟩

end

/-- The invariants carry along a schedule. -/
theorem State.Inv.of_schedule {sched : Nat → Event} {s : State} (hs : s.Inv) {n : Nat} {t : State}
    (h : runSchedule sched s n = .next t) : t.Inv := by
  induction n generalizing t with
  | zero => cases h; exact hs
  | succ n ih =>
    rw [runSchedule_succ] at h
    obtain ⟨u, hu, ht⟩ := (andThen_eq_next _).mp h
    exact (does_of_runEvent ht).inv (ih hu)

end Sys2Proof.Machine
end

section
/-! Proof of the obligation on the service of requests (70_reset_and_hazards R221, 41_motor_sequencer R151). -/

namespace Sys2Proof.Machine

/-! ### From a set flag to its CLEAR -/

/-- A request not yet cleared, with `k` STEPs to come before S_SLEEP. -/
structure State.Pending (k : Nat) (s : State) : Prop where
  inv : s.Inv
  flag : s.pulse_req = true
  steps : s.stepsToSleep = k

/-- A request that the next STEP, at the point `q` of the sequence, finds. -/
structure State.PendingAt (q : Seq) (s : State) : Prop where
  inv : s.Inv
  flag : s.pulse_req = true
  seq : s.seq = q

theorem State.PendingAt.after_tick {q : Seq} {s : State} (h : s.PendingAt q) (hq : q ≠ .S_SLEEP) :
    s.accumulate.wake.PendingAt q where
  inv := h.inv.after_tick
  flag := by simp [h.flag]
  seq := by simp [h.seq, hq]

theorem State.Pending.awake {k : Nat} {s : State} (h : s.Pending (k + 1)) : s.seq ≠ .S_SLEEP := by
  intro hq
  cases h.steps.symm.trans (State.stepsToSleep_of_sleep hq)

/-- A TICK costs an awake sequencer no STEP while the flag is set: a fire changes nothing in what CHECK reads. -/
theorem State.Pending.after_tick {k : Nat} {s : State} (h : s.Pending k) (hq : s.seq ≠ .S_SLEEP) :
    s.accumulate.wake.Pending k where
  inv := h.inv.after_tick
  flag := by simp [h.flag]
  steps := by
    rw [← h.steps]
    by_cases hcheck : s.seq = .S_CHECK
    · rw [State.stepsToSleep_of_check hcheck, State.stepsToSleep_of_check (by simp [hcheck])]
      simp [h.flag]
    · exact State.stepsToSleep_tick hq hcheck

/-- No STEP but a CLEAR takes the request back (20_memory R62). -/
theorem State.Pending.after_step {k : Nat} {s t : State} (h : s.Pending (k + 1)) (hdoes : Does s .step t)
    (hclear : s.seq ≠ .S_CLEAR) : t.Pending k where
  inv := hdoes.inv h.inv
  flag := by
    obtain ⟨-, hkept | ⟨hc, -⟩, -⟩ := hdoes.step_writes
    · rw [hkept, h.flag]
    · exact absurd hc hclear
  steps := by
    have hless := hdoes.stepsToSleep_succ h.inv h.awake
    rw [h.steps] at hless
    exact Nat.succ.inj hless

section
variable {sched : Nat → Event} {s : State}

/-- A CHECK of a set flag is followed by the CLEAR (41_motor_sequencer R142). -/
theorem Fair.check_leadsTo_clear (hfair : Fair sched s) :
    LeadsTo sched s (State.PendingAt .S_CHECK) (State.PendingAt .S_CLEAR) := by
  refine hfair.leadsTo_by_step (fun u h => h.inv) (fun u h => by simp [h.seq]) (fun u h => h.after_tick (by decide))
    fun {u v} hdoes h => ?_
  have hv : v = { u with seq := .S_CLEAR } := by
    have hrun := runEvent_step_check h.seq
    rw [runEvent_of_does hdoes, execCheck, h.flag] at hrun
    exact Host.Outcome.next.inj hrun
  subst hv
  exact ⟨hdoes.inv h.inv, h.flag, rfl⟩

/-- A request that finds the sequencer asleep waits for the next TICK (41_motor_sequencer R149). -/
theorem Fair.sleep_leadsTo_clear (hfair : Fair sched s) :
    LeadsTo sched s (State.PendingAt .S_SLEEP) (State.PendingAt .S_CLEAR) := by
  refine (hfair.leadsTo_by_wake (Q := State.PendingAt .S_CHECK) (fun u h => h.seq) fun u h => ?_).trans
    hfair.check_leadsTo_clear
  exact ⟨h.inv.after_tick, by simp [h.flag], by simp [h.seq]⟩

/-- A request comes to its CLEAR, either before the STEPs to S_SLEEP run out or after the wake. -/
theorem Fair.pending_leadsTo_clear (hfair : Fair sched s) (k : Nat) :
    LeadsTo sched s (State.Pending k) (State.PendingAt .S_CLEAR) := by
  refine LeadsTo.countdown (fun n t ht h => ?_) (fun k n t ht h => ?_) k
  · obtain ⟨-, hphase, -⟩ := h.inv
    exact hfair.sleep_leadsTo_clear n t ht ⟨h.inv, h.flag, State.seq_of_stepsToSleep hphase h.steps⟩
  · by_cases hclear : t.seq = .S_CLEAR
    · exact ⟨n, t, le_rfl, ht, .inr ⟨h.inv, h.flag, hclear⟩⟩
    · refine hfair.leadsTo_by_step (P := fun u => u.Pending (k + 1) ∧ u.seq ≠ .S_CLEAR) (fun u ⟨hu, _⟩ => hu.inv)
        (fun u ⟨hu, _⟩ => hu.awake) (fun u ⟨hu, hc⟩ => ⟨hu.after_tick hu.awake, fun hw => ?_⟩)
        (fun hdoes ⟨hu, hc⟩ => .inl (hu.after_step hdoes hc)) n t ht ⟨h, hclear⟩
      exact hc ((State.accumulate_seq u).symm.trans (State.seq_of_wake (by decide) hw))

end

/-! ### From the CLEAR to the end of its cycle -/

/-- In the cycle that `s` begins, `k` STEPs before its NEUTRAL. -/
structure State.Serving (s : State) (k : Nat) (t : State) : Prop where
  inv : t.Inv
  inCycle : t.InCycle
  same : SameCycle s t
  position : t.position + k = 12

theorem State.Serving.awake {s t : State} {k : Nat} (h : s.Serving k t) : t.seq ≠ .S_SLEEP := by
  intro hq
  simpa [State.InCycle, hq] using h.inCycle

theorem State.Serving.after_tick {s t : State} {k : Nat} (h : s.Serving k t) : s.Serving k t.accumulate.wake where
  inv := h.inv.after_tick
  inCycle := h.inCycle.after_tick
  same := h.same.trans (.of_tick t)
  position := by rw [State.position_tick, h.position]

theorem State.Serving.after_step {s t u : State} {k : Nat} (h : s.Serving (k + 1) t) (hdoes : Does t .step u) :
    s.Serving k u := by
  obtain ⟨-, hphase, -⟩ := h.inv
  have hpos := h.position
  have hsucc := hdoes.position_succ h.inCycle
  refine ⟨hdoes.inv h.inv, ?_, h.same.trans (.of_step hdoes h.inCycle), by omega⟩
  rcases hdoes.inCycle_or_done h.inCycle hphase with ⟨hc, -⟩ | hdone
  · exact hc
  · have := State.position_of_rest hdone.not_inCycle
    omega

/-- The last position of a cycle is that of NEUTRAL. -/
theorem State.seq_of_position {s : State} (hc : s.InCycle) (hp : s.phase ≤ 5#3) (h : s.position = 12) :
    s.seq = .S_NEUTRAL := by
  have : s.phase.toNat ≤ 5 := hp
  rcases hc with hq | hq | hq
  · rw [State.position_of_apply hq] at h; omega
  · rw [State.position_of_hold hq] at h; omega
  · exact hq

theorem Fair.serving_leadsTo_neutral {sched : Nat → Event} {s r : State} (hfair : Fair sched s) (k : Nat) :
    LeadsTo sched s (r.Serving k) (r.Serving 0) := by
  refine LeadsTo.countdown .refl (fun k => ?_) k
  exact hfair.leadsTo_by_step (fun _ h => h.inv) (fun _ h => h.awake) (fun _ h => h.after_tick)
    fun hdoes h => .inl (h.after_step hdoes)

/-- The CLEAR begins a cycle, all of it still to come (41_motor_sequencer R143). -/
theorem State.PendingAt.clear {s : State} (h : s.PendingAt .S_CLEAR) :
    ∃ t, runEvent .step s = .next t ∧ t.Serving 12 t ∧ t.obs.clears = s.obs.clears + 1 ∧
      t.obs.applies + t.appliesLeft = s.obs.applies + 6 := by
  have hdoes : Does s .step _ := .clear h.seq
  refine ⟨_, runEvent_of_does hdoes, ⟨hdoes.inv h.inv, .inl rfl, .refl _, ?_⟩, rfl, ?_⟩
  · rw [State.position_of_start rfl rfl]
  · rw [State.appliesLeft_of_start rfl rfl]

/-- At its NEUTRAL a cycle has nothing left to apply. -/
theorem State.Serving.appliesLeft {s t : State} (h : s.Serving 0 t) : t.appliesLeft = 0 := by
  have hpos : t.position = 12 := h.position
  rw [State.appliesLeft, State.writesMade, hpos]

theorem State.Serving.seq {s t : State} (h : s.Serving 0 t) : t.seq = .S_NEUTRAL := by
  obtain ⟨-, hphase, -⟩ := h.inv
  exact State.seq_of_position h.inCycle hphase h.position

/-- Settles O49: fairness leads a request to its CLEAR, and the CLEAR through the positions of its cycle; what the cycle
had still to apply at its start is applied at its NEUTRAL. -/
theorem everyRequestIsServed : Obligations.EveryRequestIsServed := by
  intro sched s hs hfair n t ht hflag
  obtain ⟨a, p, ha, hp, hclear⟩ := hfair.pending_leadsTo_clear _ n t ht ⟨hs.of_schedule ht, hflag, rfl⟩
  obtain ⟨m, u, hm, hu, hstep, hpend⟩ := hfair.step_taken (P := State.PendingAt .S_CLEAR) (fun _ h => by simp [h.seq])
    (fun _ h => h.after_tick (by decide)) hp hclear
  obtain ⟨w, hw, hstart, hclears, happlies⟩ := hpend.clear
  rw [← hstep, ← runSchedule_succ_of_next hu] at hw
  obtain ⟨b, q, hb, hq, hlast⟩ := hfair.serving_leadsTo_neutral 12 (m + 1) w hw hstart
  obtain ⟨k, v, hk, hv, hneutral, hend⟩ :=
    hfair.step_taken (fun _ h => State.Serving.awake h) (fun _ h => h.after_tick) hq hlast
  have hsame := hend.same.applies
  rw [happlies, hend.appliesLeft] at hsame
  exact ⟨m, u, ha.trans hm, hu, hstep, hpend.seq, hpend.flag, k, v, hb.trans hk, hv, hneutral, hend.seq, hsame,
    hend.same.clears.trans hclears⟩

end Sys2Proof.Machine
end

section
/-! Support for the proofs about the clocked realisation (70_reset_and_hazards R205 to R208): what one clock edge can
do, said once. -/

namespace Sys2Proof.Machine

/-! ### The TICK of an edge -/

/-- The block after the TICK of an edge, if the edge has one. -/
def State.afterTick (s : State) (tick : Bool) : State := if tick then s.accumulate.wake else s

theorem runTrace_tickOf (s : State) (tick : Bool) : runTrace (tickOf tick) s = .next (s.afterTick tick) := by
  cases tick with
  | false => rfl
  | true => exact (runTrace_singleton .tick s).trans (runEvent_tick_eq s)

/-- The STEP of an edge, then its TICK. -/
theorem Does.runTrace_step_tickOf {s b : State} (h : Does s .step b) (tick : Bool) :
    runTrace (.step :: tickOf tick) s = .next (b.afterTick tick) := by
  rw [runTrace_cons, runEvent_of_does h, andThen_next, runTrace_tickOf]

section
variable (s : State) (tick : Bool)

@[simp] theorem State.afterTick_phase : (s.afterTick tick).phase = s.phase := by cases tick <;> simp [State.afterTick]
@[simp] theorem State.afterTick_pins : (s.afterTick tick).pins = s.pins := by cases tick <;> simp [State.afterTick]

@[simp] theorem State.afterTick_pulse_req : (s.afterTick tick).pulse_req = (s.pulse_req || tick && s.fires) := by
  cases tick <;> simp [State.afterTick]

end

/-- The TICK of an edge moves a sleeping sequencer only (40_rate_accumulator R113). -/
theorem State.afterTick_seq {s : State} (hq : s.seq ≠ .S_SLEEP) (tick : Bool) : (s.afterTick tick).seq = s.seq := by
  cases tick with
  | false => rfl
  | true => simp [State.afterTick, hq]

/-! ### One edge -/

/-- What an edge does from `c` (70_reset_and_hazards R206): the reset, a hold that counts down, a sequencer asleep, or
one STEP, each of the last three before the edge's TICK. -/
inductive EdgeDoes (c : ClockedState) : EdgeInput → ClockedState → Prop where
  | reset (tick : Bool) : EdgeDoes c ⟨true, tick⟩ { c with
      block := { State.initial c.block.device with events := c.block.events, drawn := c.block.drawn }, hold_cnt := 0 }
  | hold (tick : Bool) (hq : c.block.seq = .S_HOLD) (hn : c.hold_cnt ≠ 0) :
      EdgeDoes c ⟨false, tick⟩ { c with block := c.block.afterTick tick, hold_cnt := c.hold_cnt - 1 }
  | sleep (tick : Bool) (hq : c.block.seq = .S_SLEEP) :
      EdgeDoes c ⟨false, tick⟩ { c with block := c.block.afterTick tick }
  | step (tick : Bool) (hq : c.block.seq ≠ .S_SLEEP) (hn : c.block.seq = .S_HOLD → c.hold_cnt = 0) {b : State}
      (hb : Does c.block .step b) :
      EdgeDoes c ⟨false, tick⟩ { c with
        block := b.afterTick tick, hold_cnt := if c.block.seq = .S_APPLY then c.hold.HOLD_CYCLES else c.hold_cnt }

section
variable {c d : ClockedState}

theorem ClockedState.perform_of_does {e : Event} {b : State} (h : Does c.block e b) (n : Nat) :
    c.perform e n = .next { c with block := b, hold_cnt := n } := by
  rw [ClockedState.perform, runEvent_of_does h, andThen_next]

theorem ClockedState.tickPart_eq (c : ClockedState) (tick : Bool) :
    c.tickPart tick = .next { c with block := c.block.afterTick tick } := by
  cases tick with
  | false => rfl
  | true => exact ClockedState.perform_of_does (does_of_runEvent (runEvent_tick_eq c.block)) c.hold_cnt

theorem ClockedState.sequencerPart_of_hold (hq : c.block.seq = .S_HOLD) (hn : c.hold_cnt ≠ 0) :
    c.sequencerPart = .next { c with hold_cnt := c.hold_cnt - 1 } := if_pos ⟨hq, hn⟩

theorem ClockedState.sequencerPart_of_sleep (hq : c.block.seq = .S_SLEEP) : c.sequencerPart = .next c := by
  simp [ClockedState.sequencerPart, hq]

theorem ClockedState.sequencerPart_of_step (hq : c.block.seq ≠ .S_SLEEP)
    (hn : c.block.seq = .S_HOLD → c.hold_cnt = 0) :
    c.sequencerPart = c.perform .step (if c.block.seq = .S_APPLY then c.hold.HOLD_CYCLES else c.hold_cnt) := by
  rw [ClockedState.sequencerPart, if_neg fun ⟨hh, hne⟩ => hne (hn hh), if_neg hq]

/-- Without `rst` the TICK acts on what the sequencer's part leaves. -/
theorem edge_of_sequencerPart (h : c.sequencerPart = .next d) (tick : Bool) :
    edge ⟨false, tick⟩ c = .next { d with block := d.block.afterTick tick } := by
  rw [edge, if_neg Bool.false_ne_true, h, andThen_next, ClockedState.tickPart_eq]

theorem edge_of_does {inp : EdgeInput} (h : EdgeDoes c inp d) : edge inp c = .next d := by
  cases h with
  | reset tick => cases tick <;> exact ClockedState.perform_of_does (.reset rfl) 0
  | hold tick hq hn => exact edge_of_sequencerPart (ClockedState.sequencerPart_of_hold hq hn) tick
  | sleep tick hq => exact edge_of_sequencerPart (ClockedState.sequencerPart_of_sleep hq) tick
  | step tick hq hn hb =>
    exact edge_of_sequencerPart ((ClockedState.sequencerPart_of_step hq hn).trans (c.perform_of_does hb _)) tick

theorem EdgeDoes.unique {inp : EdgeInput} {d' : ClockedState} (h : EdgeDoes c inp d) (h' : EdgeDoes c inp d') :
    d = d' :=
  Host.Outcome.next.inj ((edge_of_does h).symm.trans (edge_of_does h'))

/-- An edge does one of the four, or its STEP stops the block. -/
theorem edge_cases (inp : EdgeInput) (c : ClockedState) :
    (∃ d, EdgeDoes c inp d) ∨
      ¬ c.block.phase ≤ 5#3 ∧ edge inp c = .fault .phaseIndexOutOfRange := by
  obtain ⟨rst, tick⟩ := inp
  cases rst with
  | true => exact .inl ⟨_, .reset tick⟩
  | false =>
    by_cases hq : c.block.seq = .S_SLEEP
    · exact .inl ⟨_, .sleep tick hq⟩
    · by_cases hh : c.block.seq = .S_HOLD ∧ c.hold_cnt ≠ 0
      · obtain ⟨hhold, hn⟩ := hh
        exact .inl ⟨_, .hold tick hhold hn⟩
      · have hn : c.block.seq = .S_HOLD → c.hold_cnt = 0 := fun h => by_contra fun hne => hh ⟨h, hne⟩
        rcases runEvent_answers .step c.block with ⟨b, hb⟩ | ⟨-, -, hp, hfault⟩
        · exact .inl ⟨_, .step tick hq hn hb⟩
        · refine .inr ⟨hp, ?_⟩
          rw [edge, if_neg Bool.false_ne_true, ClockedState.sequencerPart_of_step hq hn, ClockedState.perform, hfault,
            andThen_fault, andThen_fault]

/-- The inversion of an edge: what it answers is what its case says. -/
theorem edgeDoes_of_edge {inp : EdgeInput} (h : edge inp c = .next d) : EdgeDoes c inp d := by
  rcases edge_cases inp c with ⟨d', hd⟩ | ⟨-, hfault⟩
  · cases (edge_of_does hd).symm.trans h
    exact hd
  · cases hfault.symm.trans h

end

end Sys2Proof.Machine
end

section
/-! Proofs of the obligations on the clocked realisation (70_reset_and_hazards R206, R207, R208). -/

namespace Sys2Proof.Machine

/-! ### The event model (R208) -/

/-- The events of an edge are what its case performs. -/
theorem EdgeDoes.events {c d : ClockedState} {inp : EdgeInput} (h : EdgeDoes c inp d) :
    ∃ tr, EdgeEvents inp tr ∧ runTrace tr c.block = .next d.block := by
  cases h with
  | reset tick =>
    refine ⟨[if tick then .rstTick else .rst], rfl, (runTrace_singleton _ _).trans (runEvent_of_does (.reset ?_))⟩
    cases tick <;> rfl
  | hold tick hq hn => exact ⟨tickOf tick, .inl rfl, runTrace_tickOf c.block tick⟩
  | sleep tick hq => exact ⟨tickOf tick, .inl rfl, runTrace_tickOf c.block tick⟩
  | step tick hq hn hb => exact ⟨.step :: tickOf tick, .inr rfl, hb.runTrace_step_tickOf tick⟩

/-- A sequencer that neither sleeps nor waits for a hold to end performs one STEP. -/
theorem EdgeDoes.performs_step {c d : ClockedState} {inp : EdgeInput} (h : EdgeDoes c inp d) (hrst : inp.rst = false)
    (hq : c.block.seq ≠ .S_SLEEP) (hn : c.block.seq = .S_HOLD → c.hold_cnt = 0) :
    runTrace (.step :: tickOf inp.tick) c.block = .next d.block := by
  cases h with
  | reset tick => cases hrst
  | hold tick hhold hne => exact absurd (hn hhold) hne
  | sleep tick hsleep => exact absurd hsleep hq
  | step tick _ _ hb => exact hb.runTrace_step_tickOf tick

/-- The edges of a run, one after another: a trace of events that leaves the same block. -/
theorem events_of_runEdges {inps : List EdgeInput} {c d : ClockedState} (h : runEdges inps c = .next d) :
    ∃ trs : List (List Event), List.Forall₂ EdgeEvents inps trs ∧ runTrace trs.flatten c.block = .next d.block := by
  induction inps generalizing c with
  | nil => cases h; exact ⟨[], .nil, rfl⟩
  | cons inp inps ih =>
    obtain ⟨u, hu, hrest⟩ := (andThen_eq_next _).mp h
    obtain ⟨tr, htr, hedge⟩ := (edgeDoes_of_edge hu).events
    obtain ⟨trs, htrs, hrun⟩ := ih hrest
    exact ⟨tr :: trs, .cons htr htrs, by rw [List.flatten_cons, runTrace_append, hedge, andThen_next, hrun]⟩

/-- Settles O52: edge by edge, the events of `EdgeDoes.events`; outside S_SLEEP and S_HOLD a STEP is among them. -/
theorem clockedRefinesEvents : Obligations.ClockedRefinesEvents :=
  ⟨fun _ _ _ => events_of_runEdges, fun _ _ _ hrst hsleep hhold h =>
    (edgeDoes_of_edge h).performs_step hrst hsleep fun hq => absurd hq hhold⟩

/-! ### One edge (R206) -/

/-- The flag a STEP leaves: taken back by CLEAR only (20_memory R62). -/
theorem Does.step_flag {s t : State} (h : Does s .step t) :
    t.pulse_req = (s.pulse_req && decide (s.seq ≠ .S_CLEAR)) := by
  cases h with
  | reset he => cases he
  | clear hq => simp [hq]
  | _ => simp [*]

/-- The flag's next value: a set wins over a clear on the same edge. -/
theorem EdgeDoes.flag {c d : ClockedState} {inp : EdgeInput} (h : EdgeDoes c inp d) (hrst : inp.rst = false) :
    d.block.pulse_req = (c.block.pulse_req && decide (c.block.seq ≠ .S_CLEAR) || inp.tick && c.block.fires) := by
  cases h with
  | reset tick => cases hrst
  | hold tick hq hn => simp [hq]
  | sleep tick hq => simp [hq]
  | step tick hq hn hb =>
    obtain ⟨hdevice, -, -⟩ := hb.constants
    obtain ⟨hacc, -⟩ := hb.step_writes
    rw [State.afterTick_pulse_req, hb.step_flag, State.fires_congr hdevice hacc]

/-- Settles O50: what an edge does is one of the four cases; SLEEP on an edge with a tick is woken by it, and a CHECK
that leads to S_DOZE is not. -/
theorem clockEdge : Obligations.ClockEdge := by
  refine ⟨fun c tick => edge_of_does (.reset tick), fun c d ⟨rst, tick⟩ hrst h => ?_, fun c inp hs => ?_⟩
  · have hdoes := edgeDoes_of_edge h
    obtain rfl : rst = false := hrst
    refine ⟨fun hq hn => ?_, fun hq => ?_, hdoes.performs_step rfl, hdoes.flag rfl, fun hq htick => ?_,
      fun hq hflag => ?_⟩
    · obtain rfl := hdoes.unique (.hold tick hq hn)
      exact ⟨runTrace_tickOf c.block tick, Nat.sub_one_add_one hn⟩
    · obtain rfl := hdoes.unique (.sleep tick hq)
      exact ⟨runTrace_tickOf c.block tick, rfl⟩
    · obtain rfl : tick = true := htick
      obtain rfl := hdoes.unique (.step true (by simp [hq]) (by simp [hq]) (.sleep hq))
      simp [State.afterTick]
    · obtain rfl := hdoes.unique (.step tick (by simp [hq]) (by simp [hq]) (.check hq))
      simp [State.afterTick_seq, hflag]
  · rcases edge_cases inp c with ⟨d, hd⟩ | ⟨hp, -⟩
    · exact ⟨d, edge_of_does hd⟩
    · obtain ⟨-, hphase, -⟩ := hs
      exact absurd hphase hp

/-! ### The hold (R207) -/

/-- In the hold of the code `v`, applied for the index `p`, with `n` edges to count down. -/
structure ClockedState.Holding (v p : Code) (n : Nat) (c : ClockedState) : Prop where
  seq : c.block.seq = .S_HOLD
  pins : c.block.pins = v
  phase : c.block.phase = p
  hold_cnt : c.hold_cnt = n

section
variable {c d : ClockedState} {inp : EdgeInput} {v p : Code} {n : Nat}

/-- A PHk begins a hold of its code. -/
theorem EdgeDoes.holding_of_apply (h : EdgeDoes c inp d) (hrst : inp.rst = false) (k : Fin 6)
    (hq : c.block.seq = .S_APPLY) (hp : c.block.phase = BitVec.ofNat 3 k) :
    d.Holding c.block.cfg.PT[k] c.block.phase c.hold.HOLD_CYCLES := by
  obtain ⟨rst, tick⟩ := inp
  obtain rfl : rst = false := hrst
  obtain rfl := h.unique (.step tick (by simp [hq]) (by simp [hq]) (.apply k hq hp))
  exact ⟨State.afterTick_seq (by simp) tick, State.afterTick_pins _ tick, State.afterTick_phase _ tick, if_pos hq⟩

/-- An edge counts the hold down, whatever its tick. -/
theorem ClockedState.Holding.count_down (hs : c.Holding v p (n + 1)) (h : EdgeDoes c inp d) (hrst : inp.rst = false) :
    d.Holding v p n := by
  obtain ⟨rst, tick⟩ := inp
  obtain rfl : rst = false := hrst
  obtain ⟨hq, hpins, hphase, hcnt⟩ := hs
  obtain rfl := h.unique (.hold tick hq (by simp [hcnt]))
  exact ⟨(State.afterTick_seq (by simp [hq]) tick).trans hq, (State.afterTick_pins _ tick).trans hpins,
    (State.afterTick_phase _ tick).trans hphase, by simp [hcnt]⟩

/-- The edge that finds it counted down performs HOLDEND, which leaves the code on the lines. -/
theorem ClockedState.Holding.hold_end (hs : c.Holding v p 0) (h : EdgeDoes c inp d) (hrst : inp.rst = false) :
    d.block.seq = (if p = 5#3 then .S_NEUTRAL else .S_APPLY) ∧ d.block.pins = v := by
  obtain ⟨hq, hpins, hphase, hcnt⟩ := hs
  cases h with
  | reset tick => cases hrst
  | hold tick _ hn => exact absurd hcnt hn
  | sleep tick hsleep => cases hq.symm.trans hsleep
  | step tick _ _ hb =>
    cases hb with
    | reset he => cases he
    | holdLast _ hp =>
      rw [← hphase, if_pos hp]
      exact ⟨State.afterTick_seq (by simp) tick, (State.afterTick_pins _ tick).trans hpins⟩
    | holdNext _ hp =>
      rw [← hphase, if_neg (BitVec.ne_of_lt hp)]
      exact ⟨State.afterTick_seq (by simp) tick, (State.afterTick_pins _ tick).trans hpins⟩
    | _ => cases hq.symm.trans ‹_›

/-- While the count lasts, so does the hold. -/
theorem ClockedState.Holding.of_runEdges {inps : List EdgeInput} (hs : c.Holding v p (n + inps.length))
    (hrst : ∀ i ∈ inps, i.rst = false) (h : runEdges inps c = .next d) : d.Holding v p n := by
  induction inps generalizing c with
  | nil => cases h; exact hs
  | cons inp inps ih =>
    obtain ⟨hfirst, hmore⟩ := List.forall_mem_cons.mp hrst
    obtain ⟨u, hu, hrest⟩ := (andThen_eq_next _).mp h
    exact ih (hs.count_down (edgeDoes_of_edge hu) hfirst) hmore hrest

/-- One edge more than it counts ends it. -/
theorem ClockedState.Holding.hold_end_of_runEdges {inps : List EdgeInput} (hs : c.Holding v p n)
    (hrst : ∀ i ∈ inps, i.rst = false) (h : runEdges inps c = .next d) (hlen : inps.length = n + 1) :
    d.block.seq = (if p = 5#3 then .S_NEUTRAL else .S_APPLY) ∧ d.block.pins = v := by
  induction n generalizing c inps with
  | zero =>
    obtain ⟨inp, rfl⟩ := List.length_eq_one_iff.mp hlen
    obtain ⟨u, hu, hnil⟩ := (andThen_eq_next _).mp h
    cases hnil
    exact hs.hold_end (edgeDoes_of_edge hu) (hrst inp (List.mem_singleton_self inp))
  | succ n ih =>
    obtain ⟨inp, inps, rfl⟩ := List.exists_cons_of_length_eq_add_one hlen
    obtain ⟨hfirst, hmore⟩ := List.forall_mem_cons.mp hrst
    obtain ⟨u, hu, hrest⟩ := (andThen_eq_next _).mp h
    exact ih (hs.count_down (edgeDoes_of_edge hu) hfirst) hmore hrest (Nat.succ.inj hlen)

end

/-- Settles O51: the hold that the PHk begins counts down to 0, edge by edge, and the next edge ends it; fewer clock
periods than fill `HOLD_MIN` are no more than it counts. -/
theorem holdLastsHoldCycles : Obligations.HoldLastsHoldCycles := by
  refine ⟨fun c d tick h => ?_, fun c d first more k hq hp hrst h => ?_⟩
  · rw [(edgeDoes_of_edge h).unique (.reset tick)]
  · obtain ⟨hfirst, hmore⟩ := List.forall_mem_cons.mp hrst
    obtain ⟨u, hu, hrun⟩ := (andThen_eq_next _).mp h
    have hstart := (edgeDoes_of_edge hu).holding_of_apply hfirst k hq hp
    have hduring (hlen : more.length ≤ c.hold.HOLD_CYCLES) : d.block.seq = .S_HOLD ∧
        d.block.pins = c.block.cfg.PT[k] ∧ d.hold_cnt + more.length = c.hold.HOLD_CYCLES := by
      obtain ⟨n, hn⟩ := Nat.exists_eq_add_of_le' hlen
      obtain ⟨hseq, hpins, -, hcnt⟩ := (hn ▸ hstart).of_runEdges hmore hrun
      exact ⟨hseq, hpins, by rw [hcnt, hn]⟩
    refine ⟨hduring, hstart.hold_end_of_runEdges hmore hrun, fun hduty hshort => ?_⟩
    have hlen : more.length < c.hold.HOLD_CYCLES + 1 := Nat.lt_of_mul_lt_mul_right (hshort.trans_le hduty)
    obtain ⟨hseq, hpins, -⟩ := hduring (Nat.le_of_lt_succ hlen)
    exact ⟨hseq, hpins⟩

end Sys2Proof.Machine
end

section
/-! Proofs of the obligations on reset, the launch premises and the output ports (70_reset_and_hazards R200, R201, R204,
R205, R223). -/

namespace Sys2Proof

/-- Bit 7 of a selector is the `rst` bit of its event code, which the decoder tests first (30_encoding R81, R83,
R84). -/
theorem decode_of_rstBit {sel : Selector} (h : sel.extractLsb' 7 1 = 1#1) : decode sel = .ok .reset := by
  obtain ⟨e, q, p, rfl⟩ := exists_selector sel
  have hbit : e.code.extractLsb' 1 1 = 1#1 := by
    rwa [selector, BitVec.extractLsb'_append_eq_of_le (by decide), BitVec.extractLsb'_append_eq_of_le (by decide)] at h
  rw [decode_selector]
  cases e with
  | step => cases hbit
  | tick => cases hbit
  | rst => rfl
  | rstTick => rfl

theorem Event.isRst_eq_false_iff (e : Event) : e.isRst = false ↔ e ≠ .rst ∧ e ≠ .rstTick := by
  cases e <;> simp [Event.isRst]

end Sys2Proof

namespace Sys2Proof.Machine

/-! ### Reset -/

/-- Settles O7: `decode_of_rstBit`, and RESET writes the record out. -/
theorem resetOperation : Obligations.ResetOperation :=
  ⟨fun _ => decode_of_rstBit, fun _ => rfl, fun _ => rfl⟩

/-- Settles O18: the fields of `State.initial`. -/
theorem resetValues : Obligations.ResetValues :=
  fun _ => ⟨rfl, rfl, rfl, rfl, rfl, rfl, rfl, rfl, rfl⟩

/-! ### The launch premises -/

theorem State.atReset_iff (s : State) :
    s.AtReset ↔ s.acc = 0 ∧ s.pulse_req = false ∧ s.seq = .S_BOOT ∧ s.phase = 0#3 ∧
      s.boot_left = s.cfg.STARTUP_CYCLES ∧ s.booting = true ∧ s.pins = s.cfg.NEUTRAL ∧ s.obs = Observer.empty := by
  cases s
  simp [State.AtReset, State.initial]

/-- The events after the first one are those at the places from 1 on. -/
theorem noRst_iff_getElem? (tr : List Event) :
    NoRst tr ↔ ∀ j, 1 ≤ j → tr[j]? ≠ some .rst ∧ tr[j]? ≠ some .rstTick := by
  constructor
  · intro h j hj
    obtain ⟨i, rfl⟩ := Nat.exists_eq_add_of_le' hj
    rw [← List.getElem?_tail]
    have hne (e : Event) (he : e.isRst = true) : tr.tail[i]? ≠ some e := fun hr => by
      simp [h e (List.mem_of_getElem? hr)] at he
    exact ⟨hne .rst rfl, hne .rstTick rfl⟩
  · intro h e he
    obtain ⟨i, hi⟩ := List.mem_iff_getElem?.mp he
    have hplace := h (i + 1) (Nat.le_add_left 1 i)
    rw [← List.getElem?_tail, hi] at hplace
    simpa [Event.isRst_eq_false_iff] using hplace

/-- No trace is refused: its events are not (30_encoding R87). -/
theorem runTrace_ne_refused (tr : List Event) (s : State) (r : Refusal) : runTrace tr s ≠ .refused r := by
  induction tr generalizing s with
  | nil => exact nofun
  | cons e es ih =>
    rw [runTrace_cons]
    cases he : runEvent e s with
    | next t => exact ih t
    | fault f => exact nofun
    | refused r' => exact absurd he (runEvent_ne_refused e s r')

/-- So a trace that records no fault answers a state. -/
theorem noFault_iff_answers (tr : List Event) (s : State) :
    NoFault (runTrace tr s) ↔ ∃ t, runTrace tr s = .next t := by
  cases h : runTrace tr s with
  | next t => simp
  | fault f => simp
  | refused r => exact absurd h (runTrace_ne_refused tr s r)

theorem State.Inv.noFault {s : State} (hs : s.Inv) (tr : List Event) : NoFault (runTrace tr s) := by
  obtain ⟨t, ht, -⟩ := hs.trace_answers tr
  exact (noFault_iff_answers tr s).mpr ⟨t, ht⟩

/-- An RST, from any state, and the events after it lead to a reachable state (70_reset_and_hazards R204). -/
theorem reachable_of_opening_rst {e : Event} {tr : List Event} (he : e.isRst = true) (hfree : RstFree tr) (s : State) :
    ∃ t, runTrace (e :: tr) s = .next t ∧ t.Reachable := by
  have hdoes : Does s e _ := .reset he
  have hreset := hdoes.atReset he
  obtain ⟨t, ht, -⟩ := hreset.inv.trace_answers tr
  refine ⟨t, ?_, _, tr, hreset, hfree.noRst, ht⟩
  rw [runTrace_cons, runEvent_of_does hdoes, andThen_next, ht]

/-- Settles O54: the fields of the reset state, the places of a trace's tail, and the invariants of a reachable state,
which rule the fault out. -/
theorem launchPremises : Obligations.LaunchPremises := by
  refine ⟨State.atReset_iff, noRst_iff_getElem?, noFault_iff_answers, fun _ h => ⟨h.inv, h.inv.noFault⟩,
    fun s e tr he hno => ?_⟩
  obtain ⟨t, ht, hreach⟩ := reachable_of_opening_rst he hno s
  exact ⟨(noFault_iff_answers _ s).mpr ⟨t, ht⟩, t, ht, hreach⟩

/-! ### The output ports -/

/-- Settles O34: the ports are fields of the state, and `sleep` is the comparison of `seq` with S_SLEEP. -/
theorem outputPorts : Obligations.OutputPorts := fun _ => ⟨rfl, rfl, rfl, beq_iff_eq⟩

end Sys2Proof.Machine
end
